-- ==== Sys2Proof/Word.lean ====
section
/-! DEFINITION. The widths of the values both links carry, and the site clock's unit. -/

namespace Sys2Proof

/-- One byte on the air or on the serial line (R180). -/
abbrev Byte := BitVec 8

/-- A sync word or a CRC register (R13, R180). -/
abbrev Half := BitVec 16

/-- A site time or an interval, in whole milliseconds (R171). -/
abbrev Millis := Nat

end Sys2Proof
end

