-- ==== Sys2Proof/Config.lean ====
section
/-! DEFINITION. The capacities, ranges and defaults the manual fixes, and the free values it leaves open. -/

namespace Sys2Proof.Config

/-- Unit records (R21). -/
abbrev maxUnits : Nat := 48
/-- Status key table entries (R32). -/
abbrev maxStatusKeys : Nat := 16
/-- Order records (R62). -/
abbrev maxOrders : Nat := 96
/-- Worker records (R84). -/
abbrev maxWorkers : Nat := 64
/-- Workers of one unit (R84). -/
abbrev maxSlots : Nat := 6
/-- Device records (R120). -/
abbrev maxDevices : Nat := 128
/-- Tag list entries of one device (R120). -/
abbrev maxTags : Nat := 4
/-- Step records (R125). -/
abbrev maxSteps : Nat := 32
/-- Permit records (R139). -/
abbrev maxPermits : Nat := 24
/-- Closing notice items (R139). -/
abbrev maxClosing : Nat := 96
/-- Entries of a unit's outbox (R48). -/
abbrev maxOutbox : Nat := 4
/-- Entries of the broadcast outbox (R48). -/
abbrev maxBroadcast : Nat := 2
/-- Requests held in the request FIFO (R162). -/
abbrev maxRequests : Nat := 4
/-- Refusal marks held (R162). -/
abbrev maxMarks : Nat := 4
/-- Report queue entries (R166). -/
abbrev maxQueue : Nat := 48
/-- Entries one COLLECT EVENTS returns (R169). -/
abbrev maxCollected : Nat := 8
/-- The largest value of a 16-bit counter that holds (R19, R161, R167). -/
abbrev counterMax : Nat := 65535
/-- The largest body length of an air frame (R7). -/
abbrev maxAirBody : Nat := 56
/-- The saturation of the run count (R14). -/
abbrev runMax : Nat := 4095
/-- Text bytes of one segment (R62). -/
abbrev segmentBytes : Nat := 40

/-- The site clock's value after its last 48-bit value: the manual says only that the clock does not wrap in
service (R171), so the value is free, one for each draw. -/
opaque freeClock : Nat → BitVec 48

/-- The cycle number after its last 32-bit value: the manual gives the range only (3.1), so the value is free,
one for each draw. -/
opaque freeCycleNumber : Nat → BitVec 32

end Sys2Proof.Config
end

