-- ==== Sys2Proof/Syntax.lean ====
section
/-! DEFINITION. The commands of the block: one constructor of Instr for each row of spec/opcode_table.json, and
the requests as the request FIFO holds them. Enumerated fields are the codes of R183, so that a code outside its
list reaches the rule that refuses it. -/

namespace Sys2Proof

/-- One entry of SET STATUS KEYS: code, action code, report flag (R32). -/
structure KeyArg where
  code : Nat
  action : Nat
  report : Bool
  deriving DecidableEq, Repr

/-- One isolation point of DEFINE PERMIT or RESTORE PERMIT: device number, position code (R140). -/
structure PointArg where
  device : Nat
  position : Nat
  deriving DecidableEq, Repr

/-- The two forms of QUERY ORDER and QUERY WORKER: by the record's number, or by unit address (R83, R104, R183). -/
inductive Selector where
  | record (n : Nat)
  | unit (addr : Nat)
  deriving DecidableEq, Repr

/-- The fields of SET CHANNEL TIMING, in the order of R60. -/
structure TimingArg where
  k : Nat
  t : Nat
  b : Nat
  g : Nat
  n : Nat
  r : Nat
  deriving DecidableEq, Repr

/-- The fields of SET CLASS INTERVALS, in the order of R86. -/
structure IntervalsArg where
  general : Nat
  elevated : Nat
  isolated : Nat
  live : Nat
  prompt : Nat
  cancel : Nat
  ack : Nat
  deriving DecidableEq, Repr

/-- The fields of DEFINE UNIT (R22). -/
structure UnitArg where
  addr : Nat
  fleet : Nat
  callSign : List Byte
  cls : Nat
  sign : Nat
  deriving DecidableEq, Repr

/-- The fields of POST ORDER (R63); permit and start are 0 when absent (R183). -/
structure OrderArg where
  number : Nat
  unit : Nat
  priority : Nat
  hazard : Nat
  permit : Nat
  text : List Byte
  start : Nat
  deriving DecidableEq, Repr

/-- The fields of DEFINE PERMIT (R140). -/
structure PermitArg where
  number : Nat
  holder : Nat
  parties : List Nat
  points : List PointArg
  deriving DecidableEq, Repr

/-- A request as the request FIFO holds it: its fields when its kind and length fit, or the refusal CLP makes at
the taking (R163). The kinds stand in the order of R183. -/
inductive Request where
  | go
  | restartRadio
  | setServiceLevel (level : Nat)
  | queryPart
  | queryLink
  | setRateTable (rates : List Nat)
  | setSyncWords (a b : Half)
  | setChannelTiming (v : TimingArg)
  | setClassIntervals (v : IntervalsArg)
  | setStatusKeys (keys : List KeyArg)
  | setEventLevels (pairs : List (Nat × Nat))
  | defineUnit (v : UnitArg)
  | removeUnit (addr : Nat)
  | signOn (addr : Nat)
  | signOff (addr : Nat)
  | defineWorker (worker addr : Nat)
  | moveWorker (worker addr : Nat)
  | removeWorker (worker : Nat)
  | queryUnit (addr : Nat)
  | queryWorker (sel : Selector)
  | postOrder (v : OrderArg)
  | recallOrder (number : Nat)
  | relinkOrder (number permit : Nat)
  | queryOrder (sel : Selector)
  | ackAlarm (alarm count : Nat)
  | resolveAlarm (alarm : Nat)
  | queryAlarms (alarm : Nat)
  | defineDevice (number kind : Nat) (name : List Byte) (position : Nat)
  | setPosition (device position : Nat)
  | queueStep (device operation unit : Nat)
  | confirmStep (step : Nat)
  | abortStep (step : Nat)
  | queryDevice (device : Nat)
  | querySteps (addr : Nat)
  | definePermit (v : PermitArg)
  | issuePermit (permit : Nat)
  | withdrawPermit (permit : Nat)
  | suspendPermit (permit : Nat)
  | resumePermit (permit : Nat)
  | confirmSurrender (permit : Nat)
  | forceCancel (permit : Nat)
  | restorePermit (v : PermitArg) (state : Nat)
  | queryPermit (permit : Nat)
  | collectEvents
  | unknownKind
  | badLength
  deriving DecidableEq, Repr

/-- The commands of the block, one constructor for each row of the opcode table. A request row carries the
request's tag byte, which the reply echoes (9.2). -/
inductive Instr where
  /-- POWER_ON, with the levels of the two strap inputs (R172, R160). -/
  | powerOn (strap1 strap2 : Bool)
  /-- RESET_ASSERTION (R172). -/
  | resetAssertion
  /-- RESET_RELEASE, with the levels of the two strap inputs (R172, R160). -/
  | resetRelease (strap1 strap2 : Bool)
  /-- REQUEST_FRAME_ARRIVED: the bytes from the first length byte to the second CRC byte (R161). -/
  | requestFrameArrived (bytes : List Byte)
  /-- LENGTH_DISCARD: the length field taken (R161). -/
  | lengthDiscard (length : Half)
  /-- GAP_DISCARD (R161). -/
  | gapDiscard
  /-- REPLY_SENT (R163). -/
  | replySent
  | go (tag : Byte)
  | restartRadio (tag : Byte)
  | setServiceLevel (tag : Byte) (level : Nat)
  | queryPart (tag : Byte)
  | queryLink (tag : Byte)
  | setRateTable (tag : Byte) (rates : List Nat)
  | setSyncWords (tag : Byte) (a b : Half)
  | setChannelTiming (tag : Byte) (v : TimingArg)
  | setClassIntervals (tag : Byte) (v : IntervalsArg)
  | setStatusKeys (tag : Byte) (keys : List KeyArg)
  | setEventLevels (tag : Byte) (pairs : List (Nat × Nat))
  | defineUnit (tag : Byte) (v : UnitArg)
  | removeUnit (tag : Byte) (addr : Nat)
  | signOn (tag : Byte) (addr : Nat)
  | signOff (tag : Byte) (addr : Nat)
  | defineWorker (tag : Byte) (worker addr : Nat)
  | moveWorker (tag : Byte) (worker addr : Nat)
  | removeWorker (tag : Byte) (worker : Nat)
  | queryUnit (tag : Byte) (addr : Nat)
  | queryWorker (tag : Byte) (sel : Selector)
  | postOrder (tag : Byte) (v : OrderArg)
  | recallOrder (tag : Byte) (number : Nat)
  | relinkOrder (tag : Byte) (number permit : Nat)
  | queryOrder (tag : Byte) (sel : Selector)
  | ackAlarm (tag : Byte) (alarm count : Nat)
  | resolveAlarm (tag : Byte) (alarm : Nat)
  | queryAlarms (tag : Byte) (alarm : Nat)
  | defineDevice (tag : Byte) (number kind : Nat) (name : List Byte) (position : Nat)
  | setPosition (tag : Byte) (device position : Nat)
  | queueStep (tag : Byte) (device operation unit : Nat)
  | confirmStep (tag : Byte) (step : Nat)
  | abortStep (tag : Byte) (step : Nat)
  | queryDevice (tag : Byte) (device : Nat)
  | querySteps (tag : Byte) (addr : Nat)
  | definePermit (tag : Byte) (v : PermitArg)
  | issuePermit (tag : Byte) (permit : Nat)
  | withdrawPermit (tag : Byte) (permit : Nat)
  | suspendPermit (tag : Byte) (permit : Nat)
  | resumePermit (tag : Byte) (permit : Nat)
  | confirmSurrender (tag : Byte) (permit : Nat)
  | forceCancel (tag : Byte) (permit : Nat)
  | restorePermit (tag : Byte) (v : PermitArg) (state : Nat)
  | queryPermit (tag : Byte) (permit : Nat)
  | collectEvents (tag : Byte)
  /-- KEYUP_DELAY_EXPIRY (R2). -/
  | keyupDelayExpiry
  /-- FRAME_SEND_COMPLETION (R53). -/
  | frameSendCompletion
  /-- FRAME_COMPLETE: the bytes from the destination to the second CRC byte (R17, R18). -/
  | frameComplete (bytes : List Byte)
  /-- BEYOND_TABLE: the run count of the first mark (R15). -/
  | beyondTable (run : Nat)
  /-- NO_SYNC: the last 16 bits at the 48th bit (R16). -/
  | noSync (window : Half)
  /-- TRUNCATED: the run count when carrier was lost; read in MEASURE only (R15, R16). -/
  | truncated (run : Nat)
  /-- BURST_BAD_LENGTH: the body length byte of the header (R17). -/
  | burstBadLength (length : Byte)
  /-- POLL_WINDOW_END (R41). -/
  | pollWindowEnd
  /-- OPEN_WINDOW_END (R44). -/
  | openWindowEnd
  /-- WORKER_DEADLINE_REACHED: the worker id (R95). -/
  | workerDeadlineReached (worker : Nat)
  /-- PROMPT_WINDOW_END: the worker id (R97). -/
  | promptWindowEnd (worker : Nat)
  /-- CANCEL_WINDOW_END: the worker id (R99). -/
  | cancelWindowEnd (worker : Nat)
  /-- ACK_WINDOW_END_RAISED: the alarm id (R113). -/
  | ackWindowEndRaised (alarm : Nat)
  /-- ACK_WINDOW_END_UNANSWERED: the alarm id (R114). -/
  | ackWindowEndUnanswered (alarm : Nat)
  /-- DEMAND_ADMISSION: the unit whose outbox has a slot, 0 for the broadcast outbox (R54). -/
  | demandAdmission (addr : Nat)
  /-- BURST_START (R14). -/
  | burstStart
  /-- NOISE_RUN: the run count (R14). -/
  | noiseRun (run : Nat)
  /-- CARRIER_WAIT_CLEARED (R14). -/
  | carrierWaitCleared
  /-- RUN_CLASSIFIED: the run count (R15). -/
  | runClassified (run : Nat)
  /-- SYNC_MATCHED: the last 16 bits (R16). -/
  | syncMatched (window : Half)
  /-- START_BYTE (R161). -/
  | startByte
  /-- SITE_CLOCK_TICK (R171). -/
  | siteClockTick
  deriving DecidableEq, Repr

/-- The tag and the request of a request row. -/
def Instr.request? : Instr → Option (Byte × Request)
  | .go t => some (t, .go)
  | .restartRadio t => some (t, .restartRadio)
  | .setServiceLevel t l => some (t, .setServiceLevel l)
  | .queryPart t => some (t, .queryPart)
  | .queryLink t => some (t, .queryLink)
  | .setRateTable t v => some (t, .setRateTable v)
  | .setSyncWords t a b => some (t, .setSyncWords a b)
  | .setChannelTiming t v => some (t, .setChannelTiming v)
  | .setClassIntervals t v => some (t, .setClassIntervals v)
  | .setStatusKeys t v => some (t, .setStatusKeys v)
  | .setEventLevels t v => some (t, .setEventLevels v)
  | .defineUnit t v => some (t, .defineUnit v)
  | .removeUnit t a => some (t, .removeUnit a)
  | .signOn t a => some (t, .signOn a)
  | .signOff t a => some (t, .signOff a)
  | .defineWorker t w a => some (t, .defineWorker w a)
  | .moveWorker t w a => some (t, .moveWorker w a)
  | .removeWorker t w => some (t, .removeWorker w)
  | .queryUnit t a => some (t, .queryUnit a)
  | .queryWorker t x => some (t, .queryWorker x)
  | .postOrder t v => some (t, .postOrder v)
  | .recallOrder t n => some (t, .recallOrder n)
  | .relinkOrder t n p => some (t, .relinkOrder n p)
  | .queryOrder t x => some (t, .queryOrder x)
  | .ackAlarm t a c => some (t, .ackAlarm a c)
  | .resolveAlarm t a => some (t, .resolveAlarm a)
  | .queryAlarms t a => some (t, .queryAlarms a)
  | .defineDevice t n k m p => some (t, .defineDevice n k m p)
  | .setPosition t d p => some (t, .setPosition d p)
  | .queueStep t d o u => some (t, .queueStep d o u)
  | .confirmStep t x => some (t, .confirmStep x)
  | .abortStep t x => some (t, .abortStep x)
  | .queryDevice t d => some (t, .queryDevice d)
  | .querySteps t a => some (t, .querySteps a)
  | .definePermit t v => some (t, .definePermit v)
  | .issuePermit t p => some (t, .issuePermit p)
  | .withdrawPermit t p => some (t, .withdrawPermit p)
  | .suspendPermit t p => some (t, .suspendPermit p)
  | .resumePermit t p => some (t, .resumePermit p)
  | .confirmSurrender t p => some (t, .confirmSurrender p)
  | .forceCancel t p => some (t, .forceCancel p)
  | .restorePermit t v x => some (t, .restorePermit v x)
  | .queryPermit t p => some (t, .queryPermit p)
  | .collectEvents t => some (t, .collectEvents)
  | .powerOn _ _ | .resetAssertion | .resetRelease _ _ | .requestFrameArrived _ | .lengthDiscard _ | .gapDiscard
  | .replySent | .keyupDelayExpiry | .frameSendCompletion | .frameComplete _ | .beyondTable _ | .noSync _
  | .truncated _ | .burstBadLength _ | .pollWindowEnd | .openWindowEnd | .workerDeadlineReached _
  | .promptWindowEnd _ | .cancelWindowEnd _ | .ackWindowEndRaised _ | .ackWindowEndUnanswered _
  | .demandAdmission _ | .burstStart | .noiseRun _ | .carrierWaitCleared | .runClassified _ | .syncMatched _
  | .startByte | .siteClockTick => none

end Sys2Proof
end

