-- ==== Sys2Proof/WellFormed.lean ====
section
/-! DEFINITION. Which commands the two links can carry: every field of a request fits its width (R183), every
list its count byte, every body the length field, and every frame its envelope (R7, R161). The meanings are total;
a command that is not well formed reaches the part on no link. -/

namespace Sys2Proof

/-- A field of k bytes (R180). -/
def fits (k n : Nat) : Bool := n < 256 ^ k

/-- A list or a text whose length fits one count byte (R183). -/
def countFits {α : Type} (xs : List α) : Bool := xs.length < 256

/-- A request body fits the length field, which counts kind, tag and body, up to 1,022 (R183). -/
def bodyFits (n : Nat) : Bool := n ≤ 1020

def KeyArg.wellFormed (k : KeyArg) : Bool := fits 1 k.code && fits 1 k.action

def PointArg.wellFormed (p : PointArg) : Bool := fits 2 p.device && fits 1 p.position

def TimingArg.wellFormed (v : TimingArg) : Bool :=
  fits 2 v.k && fits 2 v.t && fits 2 v.b && fits 2 v.g && fits 1 v.n && fits 1 v.r

def IntervalsArg.wellFormed (v : IntervalsArg) : Bool :=
  fits 2 v.general && fits 2 v.elevated && fits 2 v.isolated && fits 2 v.live && fits 2 v.prompt
    && fits 2 v.cancel && fits 2 v.ack

def UnitArg.wellFormed (v : UnitArg) : Bool :=
  fits 1 v.addr && fits 1 v.fleet && countFits v.callSign && fits 1 v.cls && fits 1 v.sign

def OrderArg.wellFormed (v : OrderArg) : Bool :=
  fits 4 v.number && fits 1 v.unit && fits 1 v.priority && fits 1 v.hazard && fits 2 v.permit
    && countFits v.text && fits 1 v.start

def PermitArg.wellFormed (v : PermitArg) : Bool :=
  fits 2 v.number && fits 1 v.holder && countFits v.parties && v.parties.all (fits 1)
    && countFits v.points && v.points.all PointArg.wellFormed
    && bodyFits (6 + v.parties.length + 3 * v.points.length)

def Selector.wellFormed (k : Nat) : Selector → Bool
  | .record n => fits k n
  | .unit a => fits 1 a

/-- A request whose fields its body can carry (R183). -/
def Request.wellFormed : Request → Bool
  | .go | .restartRadio | .queryPart | .queryLink | .collectEvents => true
  | .setServiceLevel l => fits 1 l
  | .setRateTable rs => countFits rs && rs.all (fits 2)
  | .setSyncWords _ _ => true
  | .setChannelTiming v => v.wellFormed
  | .setClassIntervals v => v.wellFormed
  | .setStatusKeys ks => countFits ks && ks.all KeyArg.wellFormed
  | .setEventLevels ps => countFits ps && ps.all (fun p => fits 1 p.1 && fits 1 p.2)
  | .defineUnit v => v.wellFormed
  | .removeUnit a | .signOn a | .signOff a | .queryUnit a | .querySteps a => fits 1 a
  | .defineWorker w a | .moveWorker w a => fits 2 w && fits 1 a
  | .removeWorker w => fits 2 w
  | .queryWorker x => x.wellFormed 2
  | .postOrder v => v.wellFormed
  | .recallOrder n => fits 4 n
  | .relinkOrder n p => fits 4 n && fits 2 p
  | .queryOrder x => x.wellFormed 4
  | .ackAlarm a c => fits 2 a && fits 1 c
  | .resolveAlarm a | .queryAlarms a => fits 2 a
  | .defineDevice n k m p => fits 2 n && fits 1 k && countFits m && fits 1 p
  | .setPosition d p => fits 2 d && fits 1 p
  | .queueStep d o u => fits 2 d && fits 1 o && fits 1 u
  | .confirmStep x | .abortStep x => fits 1 x
  | .queryDevice d => fits 2 d
  | .definePermit v => v.wellFormed
  | .restorePermit v x => v.wellFormed && fits 1 x && bodyFits (7 + v.parties.length + 3 * v.points.length)
  | .issuePermit p | .withdrawPermit p | .suspendPermit p | .resumePermit p | .confirmSurrender p
  | .forceCancel p | .queryPermit p => fits 2 p
  | .unknownKind | .badLength => false

/-- A serial frame from its first length byte to its second CRC byte: the length field is 2 to 1,022 and counts the
bytes between it and the CRC (R161). -/
def serialFrameFits (bs : List Byte) : Bool :=
  match bs with
  | hi :: lo :: rest =>
    let n := hi.toNat * 256 + lo.toNat
    2 ≤ n && n ≤ 1022 && rest.length == n + 2
  | _ => false

/-- An air frame from its destination to its second CRC byte: the body length is at most 56 and counts the body
(R7, R17). -/
def airFrameFits (bs : List Byte) : Bool :=
  match bs with
  | _ :: _ :: _ :: len :: rest => len.toNat ≤ Config.maxAirBody && rest.length == len.toNat + 2
  | _ => false

/-- A command the outside can bring to the part. -/
def Instr.wellFormed (i : Instr) : Bool :=
  match i.request? with
  | some (_, r) => r.wellFormed
  | none =>
    match i with
    | .requestFrameArrived bs => serialFrameFits bs
    | .lengthDiscard n => n.toNat < 2 || 1022 < n.toNat
    | .frameComplete bs => airFrameFits bs
    | .burstBadLength n => Config.maxAirBody < n.toNat
    | .noiseRun n | .runClassified n | .beyondTable n | .truncated n => 1 ≤ n && n ≤ Config.runMax
    | .workerDeadlineReached w | .promptWindowEnd w | .cancelWindowEnd w => 1 ≤ w && fits 2 w
    | .ackWindowEndRaised a | .ackWindowEndUnanswered a => 1 ≤ a && fits 2 a
    | .demandAdmission a => a ≤ 239
    | _ => true

end Sys2Proof
end

