-- ==== Sys2Proof/Machine/State.lean ====
section
/-! DEFINITION. Every record, queue, counter, mode and line the manual gives the part, and the part after reset. -/

namespace Sys2Proof.Machine

/-- LOADING or OPERATING (R173). -/
inductive RunState where
  | loading
  | operating
  deriving DecidableEq, Repr

/-- HOME selects sync A, VISITING sync B (R4, R21). -/
inductive Fleet where
  | home
  | visiting
  deriving DecidableEq, Repr

/-- The names of the two sync words (R13). -/
inductive SyncName where
  | a
  | b
  deriving DecidableEq, Repr

/-- The contact states (R21). -/
inductive Contact where
  | neverHeard
  | inContact
  | late
  | lost
  | signedOff
  deriving DecidableEq, Repr

/-- The status key actions (R32). -/
inductive KeyAction where
  | noAction
  | crewCheckin
  | pause
  | resume
  | signOff
  deriving DecidableEq, Repr

/-- The hazard classes (R62). -/
inductive Hazard where
  | general
  | elevated
  | isolated
  | live
  deriving DecidableEq, Repr

/-- The priorities of an order (R62). -/
inductive Priority where
  | routine
  | urgent
  | emergency
  deriving DecidableEq, Repr

/-- The states of an order: the twelve of R66 and the four terminal ones of R80. -/
inductive OrderState where
  | posted
  | sending
  | delivered
  | accepted
  | enRoute
  | onSite
  | gated
  | proceeding
  | working
  | stopped
  | blocked
  | recalling
  | complete
  | declined
  | recalled
  | failed
  deriving DecidableEq, Repr

/-- The causes of ORDER_STATE (R82). -/
inductive OrderCause where
  | posting
  | crewReport
  | acknowledged
  | undelivered
  | permitChange
  | recall
  | relink
  deriving DecidableEq, Repr

/-- The states a crew may report for an order (R9). -/
inductive CrewState where
  | accepted
  | enRoute
  | onSite
  | working
  | complete
  | declined
  deriving DecidableEq, Repr

/-- The worker states (R84). -/
inductive WorkerState where
  | inactive
  | ok
  | due
  | prealert
  | alarm
  deriving DecidableEq, Repr

/-- The conditions of a worker report (R9). -/
inductive Condition where
  | ok
  | noTag
  | manDown
  | panic
  | cancel
  deriving DecidableEq, Repr

/-- The causes of an alarm (R105). -/
inductive Cause where
  | missedCheckin
  | manDown
  | panic
  deriving DecidableEq, Repr

/-- The stages of an open alarm (R105). -/
inductive Stage where
  | raised
  | unanswered
  | responding
  deriving DecidableEq, Repr

/-- Where an alarm's ALLCALL stands (R105); WAITING holds the time of demand (R115). -/
inductive AllCall where
  | notWanted
  | waiting (time : Millis)
  | queued
  | onAir
  deriving DecidableEq, Repr

/-- The kinds of a switching device (R120). -/
inductive DeviceKind where
  | isolator
  | ground
  deriving DecidableEq, Repr

/-- The positions of a device (R120). -/
inductive Position where
  | opened
  | closed
  | unknown
  deriving DecidableEq, Repr

/-- The sources of a recorded position (R120). -/
inductive PositionSource where
  | defined
  | set
  | step
  | abort
  deriving DecidableEq, Repr

/-- The operations of a step (R125). -/
inductive Operation where
  | open_
  | close
  deriving DecidableEq, Repr

/-- The states of a held step (R125). -/
inductive StepState where
  | queued
  | sent
  | readBack
  | confirmed
  deriving DecidableEq, Repr

/-- The causes of STEP_ABORTED (R128). -/
inductive AbortCause where
  | request
  | readback
  | undelivered
  | positionSet
  deriving DecidableEq, Repr

/-- The states of a held permit (R139). -/
inductive PermitState where
  | draft
  | offered
  | active
  | suspended
  | surrenderPending
  deriving DecidableEq, Repr

/-- The role of a recipient (R139). -/
inductive Role where
  | holder
  | party
  deriving DecidableEq, Repr

/-- The latest frame sent to a recipient (R139). -/
inductive Latest where
  | noFrame
  | offer
  | active
  | suspended
  | withdrawn
  deriving DecidableEq, Repr

/-- The delivery of a recipient's latest frame (R141). -/
inductive Delivery where
  | notSent
  | waiting
  | held
  | acknowledged
  | undelivered
  deriving DecidableEq, Repr

/-- The suspension causes (R139). -/
inductive SuspensionCause where
  | request
  | tagViolation (device : Nat)
  | restore
  deriving DecidableEq, Repr

/-- The causes of PERMIT_STATE, in the order the rules of file 08 name them. -/
inductive PermitCause where
  | define
  | issue
  | reissue
  | withdraw
  | accept
  | resume
  | request
  | tagViolation
  | surrender
  | forceCancel
  | restore
  deriving DecidableEq, Repr

/-- The service levels (R59). -/
inductive ServiceLevel where
  | full
  | conserve
  | essential
  deriving DecidableEq, Repr

/-- The phases of a cycle (3.1). -/
inductive CycleState where
  | stopped
  | traffic
  | poll
  | probe
  | openWindow
  deriving DecidableEq, Repr

/-- The 42 event kinds, in the order of the table of R168 read from left to right (R184). -/
inductive EventKind where
  | unknownUnit
  | wrongFleet
  | unitHeard
  | unitLate
  | unitRateChange
  | statusKey
  | unknownStatus
  | unitRegained
  | unitLost
  | signOffRefused
  | unitSignedOff
  | cycleEstimate
  | orderState
  | orderStateIgnored
  | recallUndelivered
  | stopUndelivered
  | dueCleared
  | prealertCancelled
  | tagNotHeard
  | workerStretched
  | workerDue
  | workerPrealert
  | checkinInAlarm
  | promptUnacknowledged
  | unassignedAlert
  | alarmRaised
  | alarmCauseAdded
  | alarmUnanswered
  | alarmAcknowledged
  | alarmResolved
  | tagViolation
  | stepReadback
  | readbackMismatch
  | stepDone
  | stepAborted
  | stepItemIgnored
  | permitState
  | staleAccept
  | offerUndelivered
  | permitItemIgnored
  | noticeUndelivered
  | surrenderRefused
  deriving DecidableEq, Repr

/-- The subject of an event entry, with its kind (R166, R184). -/
inductive Subject where
  | unit (addr : Nat)
  | base
  | worker (id : Nat)
  | order (handle : Nat)
  | permit (number : Nat)
  | device (number : Nat)
  | step (id : Nat)
  | alarm (id : Nat)
  deriving DecidableEq, Repr

/-- An entry of the report queue (R166); the detail is laid out by R184. -/
structure EventEntry where
  kind : EventKind
  level : Nat
  time : Millis
  subject : Subject
  detail : List Byte
  deriving DecidableEq, Repr

/-- The reply outcomes (R164). -/
inductive ReplyOutcome where
  | ok
  | clamped
  | badFrame
  | busy
  | unknownKind
  | badLength
  | outOfRange
  | notFound
  | exists_
  | full
  | wrongState
  | interlock
  | stale
  | notLoading
  | notOperating
  deriving DecidableEq, Repr

/-- A reply on the line: kind and tag as received, outcome and body (R164). -/
structure Reply where
  kind : Byte
  tag : Byte
  outcome : ReplyOutcome
  body : List Byte
  deriving DecidableEq, Repr

/-- A place of the reply order: a request of the FIFO, or a refusal mark (R162). -/
inductive Place where
  | request (kind tag : Byte) (req : Request)
  | mark (kind tag : Byte) (outcome : ReplyOutcome)
  deriving DecidableEq, Repr

/-! ## ALE -/

/-- One entry of the rate table (R11). -/
structure RateEntry where
  rate : Nat
  maxLen : Nat
  halfLen : Nat
  deriving DecidableEq, Repr

/-- The three transmitter states (R2). -/
inductive TxState where
  | idle
  | keyup
  | sending
  deriving DecidableEq, Repr

/-- What PSC gave the frame for: a POLL, the frame of a unit's entry, or a copy of an ALLCALL with whether a second
copy follows (R40, R41, R52). -/
inductive TxPurpose where
  | poll
  | entry (unit : Nat)
  | allCall (second : Bool)
  deriving DecidableEq, Repr

/-- The frame of a send request (R2): its source is 0 (R4). -/
structure TxFrame where
  purpose : TxPurpose
  dest : Nat
  kind : Nat
  body : List Byte
  cls : Nat
  sync : SyncName
  deriving DecidableEq, Repr

/-- The receive states (R14 to R17): the run count of MEASURE, the class of SYNC, the class and fleet of BODY. -/
inductive RxState where
  | hunt
  | measure (run : Nat)
  | sync (cls : Nat)
  | body (cls : Nat) (fleet : Fleet)
  deriving DecidableEq, Repr

/-- The levels of CD and RXD at one sample; mark says that RXD is at mark (R14). -/
structure Sample where
  cd : Bool
  mark : Bool
  deriving DecidableEq, Repr

/-- The eight reception error counters (R19). -/
structure Counters where
  beyondTable : Nat
  noSync : Nat
  truncated : Nat
  badLength : Nat
  badCheck : Nat
  badKind : Nat
  unknownUnit : Nat
  wrongFleet : Nat
  deriving DecidableEq, Repr

/-- The records of the Air Link Engine (R1); rxBits are the bits taken so far, in SYNC with the lead mark and in BODY
behind the sync word, rxWait the samples up to the next bit, and lastSample the sample before (R14, R16, R17). -/
structure Ale where
  txState : TxState
  txFrame : Option TxFrame
  pttTime : Millis
  rxEnabled : Bool
  rxState : RxState
  carrierWait : Bool
  rxBits : List Bool
  rxWait : Nat
  lastSample : Sample
  counters : Counters
  rateTable : List RateEntry
  syncA : Option Half
  syncB : Option Half
  deriving DecidableEq, Repr

/-! ## Outboxes -/

/-- The notices of ORDER_NOTICE (R8). -/
inductive OrderNotice where
  | proceed
  | stop
  | recall
  deriving DecidableEq, Repr

/-- The prompts of PROMPT (R8). -/
inductive Prompt where
  | checkinRequest
  | cancelQuery
  deriving DecidableEq, Repr

/-- The notices of PERMIT_NOTICE (R8). -/
inductive PermitNotice where
  | active
  | suspended
  | closed
  | withdrawn
  deriving DecidableEq, Repr

/-- An isolation point: a device and the position the permit requires of it (R139). -/
structure Point where
  device : Nat
  position : Position
  deriving DecidableEq, Repr

/-- The source record of an outbox entry (R48); a CLOSED copy has no record behind it. -/
inductive Source where
  | order (handle : Nat)
  | worker (id : Nat)
  | step (id : Nat)
  | permit (number : Nat)
  | closedCopy (number : Nat)
  deriving DecidableEq, Repr

/-- The frame kind and the fields the owner gives (R8, R48). -/
inductive Content where
  | segment (handle index count : Nat) (text : List Byte)
  | orderNotice (handle : Nat) (notice : OrderNotice)
  | prompt (slot : Nat) (prompt : Prompt)
  | step (id device : Nat) (operation : Operation)
  | stepGo (id : Nat)
  | permitOffer (number : Nat) (role : Role) (points : List Point)
  | permitNotice (number : Nat) (notice : PermitNotice)
  deriving DecidableEq, Repr

/-- A demand waiting for a unit's outbox: source, content, class, emergency mark, time of demand (R54). -/
structure Demand where
  source : Source
  content : Content
  cls : Nat
  emergency : Bool
  time : Millis
  deriving DecidableEq, Repr

/-- An entry of a unit's outbox (R48); onAir says that ALE holds its frame (R53). -/
structure Entry where
  source : Source
  content : Content
  cls : Nat
  emergency : Bool
  serial : Nat
  time : Millis
  retries : Nat
  awaiting : Bool
  onAir : Bool
  deriving DecidableEq, Repr

/-- An entry of the broadcast outbox: an ALLCALL of class SAFETY, READY until it is removed (R48, R53). -/
structure CallEntry where
  alarm : Nat
  time : Millis
  onAir : Bool
  deriving DecidableEq, Repr

/-! ## PSC -/

/-- The channel timing parameters (R60). -/
structure Timing where
  k : Nat
  t : Nat
  b : Nat
  g : Nat
  n : Nat
  r : Nat
  deriving DecidableEq, Repr

/-- K, T and B as fixed for the current cycle (R39). -/
structure CycleTiming where
  k : Nat
  t : Nat
  b : Nat
  deriving DecidableEq, Repr

/-- A poll list entry with its allowance (R39); void when its unit has been removed, signed off, or regained by an ALERT
since (R42). -/
structure PollEntry where
  unit : Nat
  allowance : Nat
  fleet : Fleet
  void : Bool
  deriving DecidableEq, Repr

/-- The open poll or probe window (R41, R43); void when its unit has been removed or signed off since (R23, R26). -/
structure Window where
  unit : Nat
  probe : Bool
  began : Millis
  length : Nat
  repliedAt : Option Millis
  void : Bool
  deriving DecidableEq, Repr

/-- The records of the Poll Scheduler (3.1), but for the unit outboxes, which stand with the unit records. -/
structure Psc where
  cycleState : CycleState
  cycleNumber : BitVec 32
  cycle : CycleTiming
  pollList : List PollEntry
  pollNext : Nat
  probeCandidate : Option Nat
  probeAllowance : Nat
  probePointer : Nat
  estimateInForce : Nat
  cycleBound : Millis
  budgetLeft : Nat
  estimate : Nat
  doublePoll : List Nat
  timing : Timing
  service : ServiceLevel
  broadcast : List CallEntry
  passedOver : Nat
  window : Option Window
  openEnd : Millis
  polled : List Nat
  matched : List Nat
  deriving DecidableEq, Repr

/-! ## UTB, WOS, LWM, ALS, SWR, PMT, CLP -/

/-- A unit record (R21) with its outbox, next serial (R38) and waiting demands (R54). -/
structure UnitRec where
  addr : Nat
  fleet : Fleet
  callSign : List Byte
  cls : Nat
  contact : Contact
  budget : Nat
  heard : Bool
  lastKey : Nat
  paused : Bool
  lastHeard : Option Millis
  hazard : Nat
  nextSerial : Nat
  outbox : List Entry
  waiting : List Demand
  deriving DecidableEq, Repr

/-- An entry of the status key table (R32). -/
structure StatusKey where
  code : Nat
  action : KeyAction
  report : Bool
  deriving DecidableEq, Repr

/-- An order record (R62). -/
structure OrderRec where
  number : Nat
  handle : Nat
  unit : Nat
  priority : Priority
  hazard : Hazard
  permit : Option Nat
  former : Option Nat
  text : List Byte
  segAcked : Nat
  state : OrderState
  resume : Option OrderState
  stopOut : Bool
  posted : Millis
  deriving DecidableEq, Repr

/-- The records of the Work Order Store (R62). -/
structure Wos where
  orders : List OrderRec
  nextHandle : Nat
  deriving DecidableEq, Repr

/-- A worker record (R84). -/
structure WorkerRec where
  id : Nat
  unit : Nat
  slot : Nat
  state : WorkerState
  lastCheckin : Option Millis
  interval : Nat
  stretched : Bool
  deadline : Option Millis
  windowEnd : Option Millis
  lastCondition : Option Condition
  alarmReported : Bool
  deriving DecidableEq, Repr

/-- The class base intervals and the prompt and cancel windows, in seconds (R86). -/
structure Intervals where
  general : Nat
  elevated : Nat
  isolated : Nat
  live : Nat
  prompt : Nat
  cancel : Nat
  deriving DecidableEq, Repr

/-- The records of the Lone Worker Monitor (R84), with its copies of the estimate and the grace. -/
structure Lwm where
  workers : List WorkerRec
  intervals : Intervals
  estimate : Nat
  grace : Nat
  deriving DecidableEq, Repr

/-- A cause set (R105). -/
structure CauseSet where
  missedCheckin : Bool
  manDown : Bool
  panic : Bool
  deriving DecidableEq, Repr

/-- An open alarm record (R105). -/
structure AlarmRec where
  id : Nat
  worker : Nat
  unit : Nat
  slot : Nat
  causes : CauseSet
  stage : Stage
  raises : Nat
  opened : Millis
  lastRaised : Millis
  windowEnd : Option Millis
  passed : Nat
  allCall : AllCall
  sent : Nat
  deriving DecidableEq, Repr

/-- The records of the Alarm List and the SITE ALARM line (R105). -/
structure Als where
  alarms : List AlarmRec
  nextId : Nat
  ackWindow : Nat
  siteAlarm : Bool
  deriving DecidableEq, Repr

/-- A tag list entry (R120). -/
structure Tag where
  permit : Nat
  time : Millis
  deriving DecidableEq, Repr

/-- A device record (R120). -/
structure DeviceRec where
  number : Nat
  kind : DeviceKind
  name : List Byte
  position : Position
  source : PositionSource
  posTime : Millis
  tags : List Tag
  pendingStep : Option Nat
  deriving DecidableEq, Repr

/-- A step record (R125). -/
structure StepRec where
  id : Nat
  device : Nat
  operation : Operation
  unit : Nat
  state : StepState
  queued : Millis
  readbacks : Option Nat
  awaited : Bool
  deriving DecidableEq, Repr

/-- The records of the Switching Register (R120, R125). -/
structure Swr where
  devices : List DeviceRec
  steps : List StepRec
  nextStep : Nat
  deriving DecidableEq, Repr

/-- A recipient of a permit's frames (R139). -/
structure Recipient where
  unit : Nat
  role : Role
  latest : Latest
  delivery : Delivery
  deriving DecidableEq, Repr

/-- A permit record (R139). -/
structure PermitRec where
  number : Nat
  holder : Nat
  parties : List Nat
  points : List Point
  state : PermitState
  control : Bool
  field : Bool
  live : Option Nat
  recipients : List Recipient
  lastCause : Option SuspensionCause
  defined : Millis
  changed : Millis
  deriving DecidableEq, Repr

/-- An item of the closing notice list (R152). -/
structure ClosingItem where
  permit : Nat
  unit : Nat
  time : Millis
  deriving DecidableEq, Repr

/-- The records of the Permit Table (R139). -/
structure Pmt where
  permits : List PermitRec
  closing : List ClosingItem
  deriving DecidableEq, Repr

/-- The records and lines of the Controller Link Port (R160). -/
structure Clp where
  lineRate : Nat
  inFrame : Bool
  sending : Option Reply
  order : List Place
  queue : List EventEntry
  attn : Bool
  lost : Nat
  highestLost : Nat
  levels : List Nat
  lengthDiscards : Nat
  gapDiscards : Nat
  badFrames : Nat
  busies : Nat
  overruns : Nat
  deriving DecidableEq, Repr

/-- The whole part, with the queue of commands that wait to be taken and the samples that CD and RXD will give. -/
structure State where
  pending : List Instr
  air : List Sample
  freeDraws : Nat
  resetAsserted : Bool
  runState : RunState
  clock : BitVec 48
  ale : Ale
  psc : Psc
  units : List UnitRec
  keys : List StatusKey
  wos : Wos
  lwm : Lwm
  als : Als
  swr : Swr
  pmt : Pmt
  clp : Clp
  deriving DecidableEq, Repr

/-- No command stops the part: bad input is clamped, refused with an outcome, held or counted (R164), so no
reason for a fault exists. -/
inductive Fault where
  deriving DecidableEq, Repr

/-- Why a command has no meaning in the model. -/
inductive Refusal where
  /-- Raised by exec's own arms for a command that has no meaning yet; safe, since the model then stops. -/
  | notModelled (mnemonic : String)
  deriving DecidableEq, Repr

/-- The default level of an event kind (R168). -/
def EventKind.defaultLevel : EventKind → Nat
  | .unknownUnit | .unitHeard | .unitLate | .unitRateChange | .statusKey | .unknownStatus | .cycleEstimate
  | .orderState | .orderStateIgnored | .dueCleared | .prealertCancelled | .tagNotHeard | .alarmAcknowledged => 1
  | .wrongFleet | .unitRegained | .unitLost | .signOffRefused | .unitSignedOff | .recallUndelivered
  | .workerStretched | .workerDue | .workerPrealert | .checkinInAlarm | .promptUnacknowledged | .unassignedAlert
  | .alarmResolved | .stepReadback | .readbackMismatch | .stepDone | .stepAborted | .stepItemIgnored
  | .permitState | .staleAccept | .offerUndelivered | .permitItemIgnored => 2
  | .stopUndelivered | .alarmRaised | .alarmCauseAdded | .alarmUnanswered | .tagViolation | .noticeUndelivered
  | .surrenderRefused => 3

/-- Every event kind, in the order of R168. -/
def EventKind.all : List EventKind :=
  [.unknownUnit, .wrongFleet, .unitHeard, .unitLate, .unitRateChange, .statusKey, .unknownStatus, .unitRegained,
   .unitLost, .signOffRefused, .unitSignedOff, .cycleEstimate, .orderState, .orderStateIgnored]
  ++ [.recallUndelivered, .stopUndelivered, .dueCleared, .prealertCancelled, .tagNotHeard, .workerStretched,
   .workerDue, .workerPrealert, .checkinInAlarm, .promptUnacknowledged, .unassignedAlert, .alarmRaised,
   .alarmCauseAdded, .alarmUnanswered]
  ++ [.alarmAcknowledged, .alarmResolved, .tagViolation, .stepReadback, .readbackMismatch, .stepDone, .stepAborted,
   .stepItemIgnored, .permitState, .staleAccept, .offerUndelivered, .permitItemIgnored, .noticeUndelivered,
   .surrenderRefused]

/-- The default channel timing (R60). -/
def Timing.default : Timing := ⟨40, 30, 4000, 10000, 4, 4⟩

/-- ALE after power-on and RESET (R1; log 7). -/
def Ale.reset : Ale :=
  { txState := .idle, txFrame := none, pttTime := 0, rxEnabled := false, rxState := .hunt, carrierWait := false
    rxBits := [], rxWait := 0, lastSample := ⟨false, false⟩
    counters := ⟨0, 0, 0, 0, 0, 0, 0, 0⟩, rateTable := [], syncA := none, syncB := none }

/-- PSC after power-on and RESET (R38, R46). -/
def Psc.reset : Psc :=
  { cycleState := .stopped, cycleNumber := 0, cycle := ⟨40, 30, 4000⟩, pollList := [], pollNext := 0
    probeCandidate := none, probeAllowance := 0, probePointer := 0, estimateInForce := 0, cycleBound := 0
    budgetLeft := 0, estimate := 4000, doublePoll := [], timing := Timing.default, service := .full
    broadcast := [], passedOver := 0, window := none, openEnd := 0, polled := [], matched := [] }

/-- LWM after power-on and RESET (R84, R86). -/
def Lwm.reset : Lwm :=
  { workers := [], intervals := ⟨900, 300, 300, 120, 120, 30⟩, estimate := 4000, grace := 10000 }

/-- ALS after power-on and RESET (R105). -/
def Als.reset : Als := { alarms := [], nextId := 1, ackWindow := 60, siteAlarm := false }

/-- SWR after power-on and RESET (R120, R125). -/
def Swr.reset : Swr := { devices := [], steps := [], nextStep := 1 }

/-- CLP after power-on and RESET, with the line rate the straps select (R160, R166). -/
def Clp.reset (lineRate : Nat) : Clp :=
  { lineRate := lineRate, inFrame := false, sending := none, order := [], queue := [], attn := false, lost := 0
    highestLost := 0, levels := EventKind.all.map EventKind.defaultLevel, lengthDiscards := 0, gapDiscards := 0
    badFrames := 0, busies := 0, overruns := 0 }

/-- The line rate the two strap inputs select (R160). -/
def strapRate : Bool → Bool → Nat
  | false, false => 38400
  | true, false => 57600
  | false, true => 115200
  | true, true => 230400

/-- Every block in its power-on condition, with the given queue, samples, free draws, RESET level and line rate
(R172). -/
def State.powerOn (pending : List Instr) (air : List Sample) (freeDraws : Nat) (resetAsserted : Bool) (lineRate : Nat) :
    State :=
  { pending := pending, air := air, freeDraws := freeDraws, resetAsserted := resetAsserted, runState := .loading, clock := 0
    ale := Ale.reset, psc := Psc.reset, units := [], keys := [], wos := ⟨[], 1⟩, lwm := Lwm.reset
    als := Als.reset, swr := Swr.reset, pmt := ⟨[], []⟩, clp := Clp.reset lineRate }

/-- The part right after the release of RESET, both straps low (R172; the straps are DESIGN CHOICE, log 7). -/
def State.reset : State := State.powerOn [] [] 0 false (strapRate false false)

end Sys2Proof.Machine
end

