-- ==== Sys2Proof/Machine/Ops.lean ====
section
/-! DEFINITION. The plain operations every block uses: counters, clamping, bytes and their check, the present time,
and finding, changing, adding and removing a record. -/

namespace Sys2Proof.Machine

/-! ## Numbers and bytes -/

/-- A counter of 16 bits that holds at 65,535 (R19, R161, R167). -/
def satInc (n : Nat) : Nat := min Config.counterMax (n + 1)

/-- A value outside its range is taken to the nearer limit (R60, R86). -/
def clamp (lo hi v : Nat) : Nat := max lo (min hi v)

/-- The quotient rounded up, in whole numbers (R6, R11). -/
def ceilDiv (a b : Nat) : Nat := (a + b - 1) / b

/-- A number in k bytes, most significant byte first (R180). -/
def beBytes : Nat → Nat → List Byte
  | 0, _ => []
  | k + 1, n => BitVec.ofNat 8 (n / 256 ^ k) :: beBytes k n

/-- The number that bytes hold, most significant byte first (R180). -/
def beNat (bs : List Byte) : Nat := bs.foldl (fun n b => n * 256 + b.toNat) 0

def u8 (n : Nat) : List Byte := beBytes 1 n
def u16 (n : Nat) : List Byte := beBytes 2 n
def u32 (n : Nat) : List Byte := beBytes 4 n
def u48 (n : Nat) : List Byte := beBytes 6 n

/-- A yes or no field: 1 for yes, 0 for no (R183, R184). -/
def yesNo (b : Bool) : List Byte := u8 (if b then 1 else 0)

/-- A text: its length byte, then its bytes (R183). -/
def textBytes (t : List Byte) : List Byte := u8 t.length ++ t

/-- A list: its count byte, then its entries (R183). -/
def listBytes {α : Type} (f : α → List Byte) (xs : List α) : List Byte := u8 xs.length ++ xs.flatMap f

/-- A site time that may be absent: all ones in its width when absent (R183). -/
def optTime (t : Option Millis) : List Byte := u48 (t.getD (2 ^ 48 - 1))

/-- One bit taken into the CRC register (R180). -/
def crcBit (c : Half) (bit : Bool) : Half :=
  if c.msb ^^ bit then (c <<< 1) ^^^ 0x1021#16 else c <<< 1

/-- One byte taken into the CRC register, most significant bit first (R180). -/
def crcByte (c : Half) (b : Byte) : Half :=
  [7, 6, 5, 4, 3, 2, 1, 0].foldl (fun c i => crcBit c (b.getLsbD i)) c

/-- The check of both links over the covered bytes, the register preset to all ones (R180). -/
def crc16 (bs : List Byte) : Half := bs.foldl crcByte 0xFFFF#16

/-- The check as it is sent, high byte first (R180). -/
def crcBytes (bs : List Byte) : List Byte := u16 (crc16 bs).toNat

/-- The next value of a number that runs from 1 to top and skips the values in use; fuel is more than their
number (R62, R106, R125). -/
def nextId (top : Nat) (used : List Nat) : Nat → Nat → Nat
  | 0, n => if n < top then n + 1 else 1
  | fuel + 1, n =>
    let m := if n < top then n + 1 else 1
    if m ∈ used then nextId top used fuel m else m

/-! ## The present time -/

/-- The site clock in milliseconds (R171). -/
def State.now (s : State) : Millis := s.clock.toNat

/-! ## The answer to a request -/

/-- What the owner's rule gives for a taken request: the state after it, the outcome and the reply body (R163). -/
abbrev Answer := State × ReplyOutcome × List Byte

/-- Refused: nothing changes (R164). -/
def State.refuse (outcome : ReplyOutcome) (body : List Byte) (s : State) : Answer := (s, outcome, body)

/-- Accepted and carried out (R164). -/
def State.accept (body : List Byte) (s : State) : Answer := (s, .ok, body)

/-- OUT_OF_RANGE with the number of the first field found, counted from 1 (R164; log 9). -/
def State.outOfRange (field : Nat) (s : State) : Answer := (s, .outOfRange, u8 field)

/-! ## Records -/

def State.unit? (s : State) (a : Nat) : Option UnitRec := s.units.find? (fun u => u.addr == a)
def State.order? (s : State) (h : Nat) : Option OrderRec := s.wos.orders.find? (fun o => o.handle == h)
def State.orderNumbered? (s : State) (n : Nat) : Option OrderRec := s.wos.orders.find? (fun o => o.number == n)
def State.worker? (s : State) (w : Nat) : Option WorkerRec := s.lwm.workers.find? (fun r => r.id == w)
def State.alarm? (s : State) (a : Nat) : Option AlarmRec := s.als.alarms.find? (fun r => r.id == a)
def State.device? (s : State) (d : Nat) : Option DeviceRec := s.swr.devices.find? (fun r => r.number == d)
def State.step? (s : State) (x : Nat) : Option StepRec := s.swr.steps.find? (fun r => r.id == x)
def State.permit? (s : State) (p : Nat) : Option PermitRec := s.pmt.permits.find? (fun r => r.number == p)

/-- The workers of a unit, in order of slot (R84). -/
def State.workersOf (s : State) (a : Nat) : List WorkerRec := s.lwm.workers.filter (fun w => w.unit == a)
/-- The orders of a unit, in order of posting (R62). -/
def State.ordersOf (s : State) (a : Nat) : List OrderRec := s.wos.orders.filter (fun o => o.unit == a)
/-- The step list of a unit, head first (R125). -/
def State.stepsOf (s : State) (a : Nat) : List StepRec := s.swr.steps.filter (fun x => x.unit == a)

/-- The holder, then the parties (R139). -/
def PermitRec.members (p : PermitRec) : List Nat := p.holder :: p.parties

/-- The permits that name a unit as holder or party (R23, R25). -/
def State.permitsOf (s : State) (a : Nat) : List PermitRec := s.pmt.permits.filter (fun p => p.members.contains a)
/-- The open alarms whose unit is one of those named (R109). -/
def State.alarmsOf (s : State) (us : List Nat) : List AlarmRec := s.als.alarms.filter (fun r => us.contains r.unit)

/-- Change the one element of a list that a test finds, wherever it stands. -/
def update {α : Type} (p : α → Bool) (f : α → α) (xs : List α) : List α := xs.map (fun x => if p x then f x else x)

def State.modUnit (a : Nat) (f : UnitRec → UnitRec) (s : State) : State :=
  { s with units := update (fun u => u.addr == a) f s.units }
def State.modOrder (h : Nat) (f : OrderRec → OrderRec) (s : State) : State :=
  { s with wos.orders := update (fun o => o.handle == h) f s.wos.orders }
def State.modWorker (w : Nat) (f : WorkerRec → WorkerRec) (s : State) : State :=
  { s with lwm.workers := update (fun r => r.id == w) f s.lwm.workers }
def State.modAlarm (a : Nat) (f : AlarmRec → AlarmRec) (s : State) : State :=
  { s with als.alarms := update (fun r => r.id == a) f s.als.alarms }
def State.modDevice (d : Nat) (f : DeviceRec → DeviceRec) (s : State) : State :=
  { s with swr.devices := update (fun r => r.number == d) f s.swr.devices }
def State.modStep (x : Nat) (f : StepRec → StepRec) (s : State) : State :=
  { s with swr.steps := update (fun r => r.id == x) f s.swr.steps }
def State.modPermit (p : Nat) (f : PermitRec → PermitRec) (s : State) : State :=
  { s with pmt.permits := update (fun r => r.number == p) f s.pmt.permits }
def State.modPsc (f : Psc → Psc) (s : State) : State := { s with psc := f s.psc }
def State.modAle (f : Ale → Ale) (s : State) : State := { s with ale := f s.ale }
def State.modClp (f : Clp → Clp) (s : State) : State := { s with clp := f s.clp }

/-- Insert before the first element that must come after it: the list stays in its order (R21, R84, R120). -/
def insertBefore {α : Type} (after : α → Bool) (x : α) : List α → List α
  | [] => [x]
  | y :: ys => if after y then x :: y :: ys else y :: insertBefore after x ys

/-- Remove the first element that a test finds. -/
def removeFirst {α : Type} (p : α → Bool) : List α → List α
  | [] => []
  | y :: ys => if p y then ys else y :: removeFirst p ys

/-- The best element of a list, the earlier one where neither is better (R51, R54, R65). -/
def bestOf {α : Type} (better : α → α → Bool) : List α → Option α
  | [] => none
  | x :: xs =>
    match bestOf better xs with
    | none => some x
    | some y => if better y x then some y else some x

end Sys2Proof.Machine
end

