-- ==== Sys2Proof/Machine/Operands.lean ====
section
/-! DEFINITION. The codes of enumerated values, and the bytes of requests, air frames and replies (R180 to R184).
An enumerated value is coded 1 upward in the order its rule lists the values. -/

namespace Sys2Proof.Machine

/-! ## Codes of enumerated values -/

/-- The value a code names in the list of its rule, 1 upward (R183). -/
def ofCode {α : Type} (values : List α) (code : Nat) : Option α := if code = 0 then none else values[code - 1]?

def Fleet.all : List Fleet := [.home, .visiting]
def Fleet.code : Fleet → Nat
  | .home => 1
  | .visiting => 2

def Contact.code : Contact → Nat
  | .neverHeard => 1
  | .inContact => 2
  | .late => 3
  | .lost => 4
  | .signedOff => 5

def KeyAction.all : List KeyAction := [.noAction, .crewCheckin, .pause, .resume, .signOff]
def KeyAction.code : KeyAction → Nat
  | .noAction => 1
  | .crewCheckin => 2
  | .pause => 3
  | .resume => 4
  | .signOff => 5

def Hazard.all : List Hazard := [.general, .elevated, .isolated, .live]
def Hazard.code : Hazard → Nat
  | .general => 1
  | .elevated => 2
  | .isolated => 3
  | .live => 4

def Priority.all : List Priority := [.routine, .urgent, .emergency]
def Priority.code : Priority → Nat
  | .routine => 1
  | .urgent => 2
  | .emergency => 3

/-- The starting states of POST ORDER, in the order of R63. -/
def startStates : List OrderState := [.posted, .delivered, .accepted, .enRoute, .onSite]

/-- The states in the order of R66, and the terminal ones of R80 numbered on from them (log 10). -/
def OrderState.code : OrderState → Nat
  | .posted => 1
  | .sending => 2
  | .delivered => 3
  | .accepted => 4
  | .enRoute => 5
  | .onSite => 6
  | .gated => 7
  | .proceeding => 8
  | .working => 9
  | .stopped => 10
  | .blocked => 11
  | .recalling => 12
  | .complete => 13
  | .declined => 14
  | .recalled => 15
  | .failed => 16

def OrderCause.code : OrderCause → Nat
  | .posting => 1
  | .crewReport => 2
  | .acknowledged => 3
  | .undelivered => 4
  | .permitChange => 5
  | .recall => 6
  | .relink => 7

def CrewState.all : List CrewState := [.accepted, .enRoute, .onSite, .working, .complete, .declined]
def CrewState.code : CrewState → Nat
  | .accepted => 1
  | .enRoute => 2
  | .onSite => 3
  | .working => 4
  | .complete => 5
  | .declined => 6

def WorkerState.code : WorkerState → Nat
  | .inactive => 1
  | .ok => 2
  | .due => 3
  | .prealert => 4
  | .alarm => 5

def Condition.all : List Condition := [.ok, .noTag, .manDown, .panic, .cancel]
def Condition.code : Condition → Nat
  | .ok => 1
  | .noTag => 2
  | .manDown => 3
  | .panic => 4
  | .cancel => 5

def Cause.code : Cause → Nat
  | .missedCheckin => 1
  | .manDown => 2
  | .panic => 3

def Stage.code : Stage → Nat
  | .raised => 1
  | .unanswered => 2
  | .responding => 3

def AllCall.code : AllCall → Nat
  | .notWanted => 1
  | .waiting _ => 2
  | .queued => 3
  | .onAir => 4

/-- The cause set byte: the sum of 1, 2 and 4 (R181). -/
def CauseSet.code (c : CauseSet) : Nat :=
  (if c.missedCheckin then 1 else 0) + (if c.manDown then 2 else 0) + (if c.panic then 4 else 0)

def DeviceKind.all : List DeviceKind := [.isolator, .ground]
def DeviceKind.code : DeviceKind → Nat
  | .isolator => 1
  | .ground => 2

def Position.all : List Position := [.opened, .closed, .unknown]
def Position.code : Position → Nat
  | .opened => 1
  | .closed => 2
  | .unknown => 3

/-- The required or resulting positions: OPEN or CLOSED (R181). -/
def Position.definite : List Position := [.opened, .closed]

def PositionSource.code : PositionSource → Nat
  | .defined => 1
  | .set => 2
  | .step => 3
  | .abort => 4

def Operation.all : List Operation := [.open_, .close]
def Operation.code : Operation → Nat
  | .open_ => 1
  | .close => 2

def StepState.code : StepState → Nat
  | .queued => 1
  | .sent => 2
  | .readBack => 3
  | .confirmed => 4

def AbortCause.code : AbortCause → Nat
  | .request => 1
  | .readback => 2
  | .undelivered => 3
  | .positionSet => 4

def PermitState.code : PermitState → Nat
  | .draft => 1
  | .offered => 2
  | .active => 3
  | .suspended => 4
  | .surrenderPending => 5

/-- The code of CLOSED, the state that frees the record (R139). -/
def closedCode : Nat := 6

/-- The states RESTORE PERMIT may give (R157). -/
def restoreStates : List PermitState := [.active, .suspended]

def Role.code : Role → Nat
  | .holder => 1
  | .party => 2

def Latest.code : Latest → Nat
  | .noFrame => 1
  | .offer => 2
  | .active => 3
  | .suspended => 4
  | .withdrawn => 5

def Delivery.code : Delivery → Nat
  | .notSent => 1
  | .waiting => 2
  | .held => 3
  | .acknowledged => 4
  | .undelivered => 5

def PermitCause.code : PermitCause → Nat
  | .define => 1
  | .issue => 2
  | .reissue => 3
  | .withdraw => 4
  | .accept => 5
  | .resume => 6
  | .request => 7
  | .tagViolation => 8
  | .surrender => 9
  | .forceCancel => 10
  | .restore => 11

def ServiceLevel.all : List ServiceLevel := [.full, .conserve, .essential]
def ServiceLevel.code : ServiceLevel → Nat
  | .full => 1
  | .conserve => 2
  | .essential => 3

def RunState.code : RunState → Nat
  | .loading => 1
  | .operating => 2

def CycleState.code : CycleState → Nat
  | .stopped => 1
  | .traffic => 2
  | .poll => 3
  | .probe => 4
  | .openWindow => 5

def RxState.code : RxState → Nat
  | .hunt => 1
  | .measure _ => 2
  | .sync _ => 3
  | .body _ _ => 4

def TxState.code : TxState → Nat
  | .idle => 1
  | .keyup => 2
  | .sending => 3

def OrderNotice.code : OrderNotice → Nat
  | .proceed => 1
  | .stop => 2
  | .recall => 3

def Prompt.code : Prompt → Nat
  | .checkinRequest => 1
  | .cancelQuery => 2

def PermitNotice.code : PermitNotice → Nat
  | .active => 1
  | .suspended => 2
  | .closed => 3
  | .withdrawn => 4

/-- The code of a reply outcome (R183). -/
def ReplyOutcome.code : ReplyOutcome → Nat
  | .ok => 0
  | .clamped => 1
  | .badFrame => 2
  | .busy => 3
  | .unknownKind => 4
  | .badLength => 5
  | .outOfRange => 6
  | .notFound => 7
  | .exists_ => 8
  | .full => 9
  | .wrongState => 10
  | .interlock => 11
  | .stale => 12
  | .notLoading => 13
  | .notOperating => 14

/-- The index of an event kind in the table of R168, from 0. -/
def EventKind.index (k : EventKind) : Nat := EventKind.all.idxOf k

/-- The code of an event kind: 0x01 to 0x2A in the order of the table (R184). -/
def EventKind.code (k : EventKind) : Nat := k.index + 1

/-- The subject kind and the subject, as the event entry carries them (R184). -/
def Subject.bytes : Subject → List Byte
  | .unit a => u8 1 ++ u16 a
  | .base => u8 2 ++ u16 0
  | .worker w => u8 3 ++ u16 w
  | .order h => u8 4 ++ u16 h
  | .permit p => u8 5 ++ u16 p
  | .device d => u8 6 ++ u16 d
  | .step x => u8 7 ++ u16 x
  | .alarm a => u8 8 ++ u16 a

/-- An event entry, as COLLECT EVENTS returns it (R184). -/
def EventEntry.bytes (e : EventEntry) : List Byte :=
  u8 e.kind.code ++ u8 e.level ++ u48 e.time ++ e.subject.bytes ++ textBytes e.detail

/-! ## Air frames (R181) -/

/-- The frame kind of an entry's content. -/
def Content.frameKind : Content → Nat
  | .segment .. => 0x02
  | .orderNotice .. => 0x03
  | .prompt .. => 0x04
  | .step .. => 0x05
  | .stepGo .. => 0x06
  | .permitOffer .. => 0x07
  | .permitNotice .. => 0x08

/-- The frame kinds of POLL and ALLCALL, and those a unit sends. -/
def kindPoll : Nat := 0x01
def kindAllCall : Nat := 0x09
def kindReply : Nat := 0x41
def kindAlert : Nat := 0x42

def Point.bytes (p : Point) : List Byte := u16 p.device ++ u8 p.position.code

/-- The body of the frame built from an entry, its fields in the order of R8. -/
def Content.body (serial : Nat) : Content → List Byte
  | .segment h i c t => u16 h ++ u8 i ++ u8 c ++ t
  | .orderNotice h n => u16 h ++ u8 n.code ++ u8 serial
  | .prompt slot p => u8 slot ++ u8 p.code ++ u8 serial
  | .step x d o => u8 x ++ u16 d ++ u8 o.code ++ u8 serial
  | .stepGo x => u8 x ++ u8 serial
  | .permitOffer p r pts => u16 p ++ u8 r.code ++ listBytes Point.bytes pts ++ u8 serial
  | .permitNotice p n => u16 p ++ u8 n.code ++ u8 serial

/-- The bytes of a frame the base sends: header, body, check (R7, R181). -/
def TxFrame.bytes (f : TxFrame) : List Byte :=
  let covered := u8 f.dest ++ u8 0 ++ u8 f.kind ++ u8 f.body.length ++ f.body
  covered ++ crcBytes covered

/-- The bits of a byte, most significant first (R4). -/
def byteBits (b : Byte) : List Bool := [7, 6, 5, 4, 3, 2, 1, 0].map (fun i => b.getLsbD i)

/-- The bits of a keyed frame in the order they go on air: 24 dotting bits beginning with a mark, the sync word,
the bytes (R4, R181). -/
def airBits (sync : Half) (bytes : List Byte) : List Bool :=
  (u8 0xAA ++ u8 0xAA ++ u8 0xAA ++ u16 sync.toNat ++ bytes).flatMap byteBits

/-- The number that bits spell, the first the most significant (R4). -/
def bitsNat (bits : List Bool) : Nat := bits.foldl (fun n b => 2 * n + b.toNat) 0

/-- The last 16 bits taken, as a word (R16). -/
def bitsWindow (bits : List Bool) : Half := BitVec.ofNat 16 (bitsNat bits)

/-- The whole bytes that bits make, most significant bit first (R17). -/
def bitsBytes : List Bool → List Byte
  | b7 :: b6 :: b5 :: b4 :: b3 :: b2 :: b1 :: b0 :: rest =>
    BitVec.ofNat 8 (bitsNat [b7, b6, b5, b4, b3, b2, b1, b0]) :: bitsBytes rest
  | _ => []

/-- An item of a REPLY (R9, R182). -/
inductive Item where
  | segmentAck (handle index : Nat)
  | frameAck (serial : Nat)
  | orderState (handle : Nat) (state : CrewState)
  | readback (step device : Nat) (operation : Operation)
  | stepDone (step : Nat) (position : Position)
  | permitAccept (permit count serial : Nat)
  | permitSurrender (permit : Nat)
  deriving DecidableEq, Repr

/-- A worker report: slot and condition (R9). -/
structure Report where
  slot : Nat
  condition : Condition
  deriving DecidableEq, Repr

/-- The contents of a frame from a unit (R9, R10). -/
inductive UnitFrame where
  | reply (key : Nat) (reports : List Report) (items : List Item)
  | alert (slot : Nat) (cause : Condition)
  deriving DecidableEq, Repr

/-- A worker report byte: slot above, condition below (R182); none when a value is not one R9 defines. -/
def parseReport (b : Byte) : Option Report :=
  match ofCode Condition.all (b.toNat % 16) with
  | some c => if b.toNat / 16 ≤ 5 then some ⟨b.toNat / 16, c⟩ else none
  | none => none

/-- An item: its kind byte and four content bytes (R182); the bytes shown as 0 are not examined. -/
def parseItem (kind b1 b2 b3 b4 : Byte) : Option Item :=
  if kind = 0x01 then some (.segmentAck (beNat [b1, b2]) b3.toNat)
  else if kind = 0x02 then some (.frameAck b1.toNat)
  else if kind = 0x03 then (ofCode CrewState.all b3.toNat).map (fun c => .orderState (beNat [b1, b2]) c)
  else if kind = 0x04 then (ofCode Operation.all b4.toNat).map (fun o => .readback b1.toNat (beNat [b2, b3]) o)
  else if kind = 0x05 then (ofCode Position.definite b2.toNat).map (fun p => .stepDone b1.toNat p)
  else if kind = 0x06 then some (.permitAccept (beNat [b1, b2]) b3.toNat b4.toNat)
  else if kind = 0x07 then some (.permitSurrender (beNat [b1, b2]))
  else none

/-- The worker reports of a REPLY body, one byte each. -/
def parseReports : List Byte → Option (List Report)
  | [] => some []
  | b :: bs =>
    match parseReport b, parseReports bs with
    | some r, some rs => some (r :: rs)
    | _, _ => none

/-- The items of a REPLY body, five bytes each. -/
def parseItems : List Byte → Option (List Item)
  | [] => some []
  | k :: b1 :: b2 :: b3 :: b4 :: bs =>
    match parseItem k b1 b2 b3 b4, parseItems bs with
    | some i, some is => some (i :: is)
    | _, _ => none
  | _ => none

/-- What check 4 of R18 says of a body. -/
inductive Fit where
  | fits (frame : UnitFrame)
  | badLength
  | badKind
  deriving DecidableEq, Repr

/-- Check 4 of R18 for an ALERT: two bytes, slot 0 to 5, cause MAN_DOWN or PANIC. -/
def fitAlert (body : List Byte) : Fit :=
  match body with
  | [slot, cause] =>
    if slot.toNat ≤ 5 ∧ cause = 3 then .fits (.alert slot.toNat .manDown)
    else if slot.toNat ≤ 5 ∧ cause = 4 then .fits (.alert slot.toNat .panic)
    else .badKind
  | _ => .badLength

/-- Check 4 of R18 for a REPLY: 2 + w + 5i bytes with w at most 6 and i at most 4, then the values. -/
def fitReply (body : List Byte) : Fit :=
  match body with
  | key :: counts :: rest =>
    let w := counts.toNat / 16
    let i := counts.toNat % 16
    if w ≤ 6 ∧ i ≤ 4 ∧ rest.length = w + 5 * i then
      match parseReports (rest.take w), parseItems (rest.drop w) with
      | some rs, some is => .fits (.reply key.toNat rs is)
      | _, _ => .badKind
    else .badLength
  | _ => .badLength

/-! ## The controller link (R183) -/

def startByteValue : Byte := 0xA7

end Sys2Proof.Machine

namespace Sys2Proof

open Sys2Proof.Machine

/-- The kind code of a request (R183). -/
def Request.kindCode : Request → Nat
  | .go => 0x01
  | .restartRadio => 0x02
  | .setServiceLevel _ => 0x03
  | .queryPart => 0x04
  | .queryLink => 0x05
  | .setRateTable _ => 0x10
  | .setSyncWords _ _ => 0x11
  | .setChannelTiming _ => 0x12
  | .setClassIntervals _ => 0x13
  | .setStatusKeys _ => 0x14
  | .setEventLevels _ => 0x15
  | .defineUnit _ => 0x20
  | .removeUnit _ => 0x21
  | .signOn _ => 0x22
  | .signOff _ => 0x23
  | .defineWorker _ _ => 0x24
  | .moveWorker _ _ => 0x25
  | .removeWorker _ => 0x26
  | .queryUnit _ => 0x27
  | .queryWorker _ => 0x28
  | .postOrder _ => 0x30
  | .recallOrder _ => 0x31
  | .relinkOrder _ _ => 0x32
  | .queryOrder _ => 0x33
  | .ackAlarm _ _ => 0x40
  | .resolveAlarm _ => 0x41
  | .queryAlarms _ => 0x42
  | .defineDevice _ _ _ _ => 0x50
  | .setPosition _ _ => 0x51
  | .queueStep _ _ _ => 0x52
  | .confirmStep _ => 0x53
  | .abortStep _ => 0x54
  | .queryDevice _ => 0x55
  | .querySteps _ => 0x56
  | .definePermit _ => 0x60
  | .issuePermit _ => 0x61
  | .withdrawPermit _ => 0x62
  | .suspendPermit _ => 0x63
  | .resumePermit _ => 0x64
  | .confirmSurrender _ => 0x65
  | .forceCancel _ => 0x66
  | .restorePermit _ _ => 0x67
  | .queryPermit _ => 0x68
  | .collectEvents => 0x70
  | .unknownKind => 0x00
  | .badLength => 0x00

end Sys2Proof

namespace Sys2Proof.Machine

/-- Take a field of k bytes from the front of a body. -/
def takeNum (k : Nat) (bs : List Byte) : Option (Nat × List Byte) :=
  if k ≤ bs.length then some (beNat (bs.take k), bs.drop k) else none

/-- Take a text: its length byte, then that many bytes (R183). -/
def takeText (bs : List Byte) : Option (List Byte × List Byte) :=
  match bs with
  | n :: rest => if n.toNat ≤ rest.length then some (rest.take n.toNat, rest.drop n.toNat) else none
  | [] => none

/-- Take n entries with the given taker. -/
def takeEntries {α : Type} (take : List Byte → Option (α × List Byte)) :
    Nat → List Byte → Option (List α × List Byte)
  | 0, bs => some ([], bs)
  | n + 1, bs =>
    match take bs with
    | none => none
    | some (x, bs) =>
      match takeEntries take n bs with
      | none => none
      | some (xs, bs) => some (x :: xs, bs)

/-- Take a list: its count byte, then its entries (R183). -/
def takeList {α : Type} (take : List Byte → Option (α × List Byte)) (bs : List Byte) : Option (List α × List Byte) :=
  match bs with
  | n :: rest => takeEntries take n.toNat rest
  | [] => none

def takeKey (bs : List Byte) : Option (KeyArg × List Byte) := do
  let (c, bs) ← takeNum 1 bs
  let (a, bs) ← takeNum 1 bs
  let (r, bs) ← takeNum 1 bs
  some (⟨c, a, r ≠ 0⟩, bs)

def takePair (bs : List Byte) : Option ((Nat × Nat) × List Byte) := do
  let (k, bs) ← takeNum 1 bs
  let (l, bs) ← takeNum 1 bs
  some ((k, l), bs)

def takePoint (bs : List Byte) : Option (PointArg × List Byte) := do
  let (d, bs) ← takeNum 2 bs
  let (p, bs) ← takeNum 1 bs
  some (⟨d, p⟩, bs)

def takePermitArg (bs : List Byte) : Option (PermitArg × List Byte) := do
  let (p, bs) ← takeNum 2 bs
  let (h, bs) ← takeNum 1 bs
  let (ps, bs) ← takeList (takeNum 1) bs
  let (pts, bs) ← takeList takePoint bs
  some (⟨p, h, ps, pts⟩, bs)

/-- The request, if the whole body has been taken: any other length is BAD_LENGTH (R163, R183). -/
def whole (r : Option (Request × List Byte)) : Request :=
  match r with
  | some (r, []) => r
  | _ => .badLength

def one (k : Nat) (f : Nat → Request) (bs : List Byte) : Request :=
  whole (do let (a, bs) ← takeNum k bs; some (f a, bs))

def two (k l : Nat) (f : Nat → Nat → Request) (bs : List Byte) : Request :=
  whole (do let (a, bs) ← takeNum k bs; let (b, bs) ← takeNum l bs; some (f a b, bs))

def three (k l m : Nat) (f : Nat → Nat → Nat → Request) (bs : List Byte) : Request :=
  whole (do let (a, bs) ← takeNum k bs; let (b, bs) ← takeNum l bs; let (c, bs) ← takeNum m bs; some (f a b c, bs))

def takeTiming (bs : List Byte) : Option (Request × List Byte) := do
  let (k, bs) ← takeNum 2 bs
  let (t, bs) ← takeNum 2 bs
  let (b, bs) ← takeNum 2 bs
  let (g, bs) ← takeNum 2 bs
  let (n, bs) ← takeNum 1 bs
  let (r, bs) ← takeNum 1 bs
  some (.setChannelTiming ⟨k, t, b, g, n, r⟩, bs)

def takeIntervals (bs : List Byte) : Option (Request × List Byte) := do
  let (g, bs) ← takeNum 2 bs
  let (e, bs) ← takeNum 2 bs
  let (i, bs) ← takeNum 2 bs
  let (l, bs) ← takeNum 2 bs
  let (p, bs) ← takeNum 2 bs
  let (c, bs) ← takeNum 2 bs
  let (a, bs) ← takeNum 2 bs
  some (.setClassIntervals ⟨g, e, i, l, p, c, a⟩, bs)

def takeUnitArg (bs : List Byte) : Option (Request × List Byte) := do
  let (a, bs) ← takeNum 1 bs
  let (f, bs) ← takeNum 1 bs
  let (cs, bs) ← takeText bs
  let (c, bs) ← takeNum 1 bs
  let (x, bs) ← takeNum 1 bs
  some (.defineUnit ⟨a, f, cs, c, x⟩, bs)

def takeOrderArg (bs : List Byte) : Option (Request × List Byte) := do
  let (n, bs) ← takeNum 4 bs
  let (u, bs) ← takeNum 1 bs
  let (p, bs) ← takeNum 1 bs
  let (h, bs) ← takeNum 1 bs
  let (l, bs) ← takeNum 2 bs
  let (t, bs) ← takeText bs
  let (x, bs) ← takeNum 1 bs
  some (.postOrder ⟨n, u, p, h, l, t, x⟩, bs)

def takeDeviceArg (bs : List Byte) : Option (Request × List Byte) := do
  let (n, bs) ← takeNum 2 bs
  let (k, bs) ← takeNum 1 bs
  let (m, bs) ← takeText bs
  let (p, bs) ← takeNum 1 bs
  some (.defineDevice n k m p, bs)

/-- A request with no body. -/
def bare (r : Request) (bs : List Byte) : Request := if bs.isEmpty then r else .badLength

/-- The request a kind byte and a body give: the two checks of R163 made on the bytes. -/
def decodeRequest (kind : Byte) (bs : List Byte) : Request :=
  match kind.toNat with
  | 0x01 => bare .go bs
  | 0x02 => bare .restartRadio bs
  | 0x03 => one 1 .setServiceLevel bs
  | 0x04 => bare .queryPart bs
  | 0x05 => bare .queryLink bs
  | 0x10 => whole (do let (rs, bs) ← takeList (takeNum 2) bs; some (.setRateTable rs, bs))
  | 0x11 => two 2 2 (fun a b => .setSyncWords (BitVec.ofNat 16 a) (BitVec.ofNat 16 b)) bs
  | 0x12 => whole (takeTiming bs)
  | 0x13 => whole (takeIntervals bs)
  | 0x14 => whole (do let (ks, bs) ← takeList takeKey bs; some (.setStatusKeys ks, bs))
  | 0x15 => whole (do let (ps, bs) ← takeList takePair bs; some (.setEventLevels ps, bs))
  | 0x20 => whole (takeUnitArg bs)
  | 0x21 => one 1 .removeUnit bs
  | 0x22 => one 1 .signOn bs
  | 0x23 => one 1 .signOff bs
  | 0x24 => two 2 1 .defineWorker bs
  | 0x25 => two 2 1 .moveWorker bs
  | 0x26 => one 2 .removeWorker bs
  | 0x27 => one 1 .queryUnit bs
  | 0x28 => if bs.length = 1 then one 1 (fun a => .queryWorker (.unit a)) bs
            else one 2 (fun w => .queryWorker (.record w)) bs
  | 0x30 => whole (takeOrderArg bs)
  | 0x31 => one 4 .recallOrder bs
  | 0x32 => two 4 2 .relinkOrder bs
  | 0x33 => if bs.length = 1 then one 1 (fun a => .queryOrder (.unit a)) bs
            else one 4 (fun n => .queryOrder (.record n)) bs
  | 0x40 => two 2 1 .ackAlarm bs
  | 0x41 => one 2 .resolveAlarm bs
  | 0x42 => one 2 .queryAlarms bs
  | 0x50 => whole (takeDeviceArg bs)
  | 0x51 => two 2 1 .setPosition bs
  | 0x52 => three 2 1 1 .queueStep bs
  | 0x53 => one 1 .confirmStep bs
  | 0x54 => one 1 .abortStep bs
  | 0x55 => one 2 .queryDevice bs
  | 0x56 => one 1 .querySteps bs
  | 0x60 => whole (do let (v, bs) ← takePermitArg bs; some (.definePermit v, bs))
  | 0x61 => one 2 .issuePermit bs
  | 0x62 => one 2 .withdrawPermit bs
  | 0x63 => one 2 .suspendPermit bs
  | 0x64 => one 2 .resumePermit bs
  | 0x65 => one 2 .confirmSurrender bs
  | 0x66 => one 2 .forceCancel bs
  | 0x67 => whole (do let (v, bs) ← takePermitArg bs; let (x, bs) ← takeNum 1 bs; some (.restorePermit v x, bs))
  | 0x68 => one 2 .queryPermit bs
  | 0x70 => bare .collectEvents bs
  | _ => .unknownKind

end Sys2Proof.Machine

namespace Sys2Proof

open Sys2Proof.Machine

def KeyArg.bytes (k : KeyArg) : List Byte := u8 k.code ++ u8 k.action ++ yesNo k.report
def PointArg.bytes (p : PointArg) : List Byte := u16 p.device ++ u8 p.position
def PermitArg.bytes (v : PermitArg) : List Byte :=
  u16 v.number ++ u8 v.holder ++ listBytes u8 v.parties ++ listBytes PointArg.bytes v.points

/-- The body of a request, its fields in the order its rule names them (R183). -/
def Request.body : Request → List Byte
  | .go | .restartRadio | .queryPart | .queryLink | .collectEvents | .unknownKind | .badLength => []
  | .setServiceLevel l => u8 l
  | .setRateTable rs => listBytes u16 rs
  | .setSyncWords a b => u16 a.toNat ++ u16 b.toNat
  | .setChannelTiming v => u16 v.k ++ u16 v.t ++ u16 v.b ++ u16 v.g ++ u8 v.n ++ u8 v.r
  | .setClassIntervals v =>
    u16 v.general ++ u16 v.elevated ++ u16 v.isolated ++ u16 v.live ++ u16 v.prompt ++ u16 v.cancel ++ u16 v.ack
  | .setStatusKeys ks => listBytes KeyArg.bytes ks
  | .setEventLevels ps => listBytes (fun p => u8 p.1 ++ u8 p.2) ps
  | .defineUnit v => u8 v.addr ++ u8 v.fleet ++ textBytes v.callSign ++ u8 v.cls ++ u8 v.sign
  | .removeUnit a | .signOn a | .signOff a | .queryUnit a | .querySteps a => u8 a
  | .defineWorker w a | .moveWorker w a => u16 w ++ u8 a
  | .removeWorker w => u16 w
  | .queryWorker (.record w) => u16 w
  | .queryWorker (.unit a) => u8 a
  | .postOrder v =>
    u32 v.number ++ u8 v.unit ++ u8 v.priority ++ u8 v.hazard ++ u16 v.permit ++ textBytes v.text ++ u8 v.start
  | .recallOrder n => u32 n
  | .relinkOrder n p => u32 n ++ u16 p
  | .queryOrder (.record n) => u32 n
  | .queryOrder (.unit a) => u8 a
  | .ackAlarm a c => u16 a ++ u8 c
  | .resolveAlarm a | .queryAlarms a => u16 a
  | .defineDevice n k m p => u16 n ++ u8 k ++ textBytes m ++ u8 p
  | .setPosition d p => u16 d ++ u8 p
  | .queueStep d o u => u16 d ++ u8 o ++ u8 u
  | .confirmStep x | .abortStep x => u8 x
  | .queryDevice d => u16 d
  | .definePermit v => v.bytes
  | .restorePermit v x => v.bytes ++ u8 x
  | .issuePermit p | .withdrawPermit p | .suspendPermit p | .resumePermit p | .confirmSurrender p
  | .forceCancel p | .queryPermit p => u16 p

end Sys2Proof

namespace Sys2Proof.Machine

/-- The bytes of a request's frame from its first length byte to its second CRC byte (R183). -/
def requestFrame (tag : Byte) (r : Request) : List Byte :=
  let covered := u16 (2 + r.body.length) ++ u8 r.kindCode ++ [tag] ++ r.body
  covered ++ crcBytes covered

/-- The bytes of a reply on the line, from the start byte to the last CRC byte (R183). -/
def Reply.frame (r : Reply) : List Byte :=
  let covered := u16 (3 + r.body.length) ++ [r.kind] ++ [r.tag] ++ u8 r.outcome.code ++ r.body
  startByteValue :: covered ++ crcBytes covered

end Sys2Proof.Machine
end

