-- ==== Sys2Proof/Machine/Flags.lean ====
section
/-! DEFINITION. The report queue: an event's level, queueing with displacement, and the ATTN and SITE ALARM lines. -/

namespace Sys2Proof.Machine

/-- The kinds fixed at level 3 (R168). -/
def EventKind.fixed : EventKind → Bool
  | .stopUndelivered | .alarmRaised | .alarmCauseAdded | .alarmUnanswered | .tagViolation | .noticeUndelivered
  | .surrenderRefused => true
  | _ => false

/-- The level held for a kind (R168). -/
def Clp.levelHeld (c : Clp) (k : EventKind) : Nat := (c.levels[k.index]?).getD k.defaultLevel

/-- The level of an event; floor is 2 for ORDER_STATE with the new state FAILED or BLOCKED, else 0 (R166, R82). -/
def Clp.eventLevel (c : Clp) (k : EventKind) (floor : Nat) : Nat :=
  if k.fixed then 3
  else if c.levelHeld k = 0 then 0
  else max (c.levelHeld k) floor

/-- The lowest level present in the queue; 4 for an empty queue. -/
def lowestLevel (q : List EventEntry) : Nat := q.foldr (fun e m => min e.level m) 4

/-- Queue an entry; a full queue discards the oldest entry of the lowest level present if that is lower, else the
new entry, and counts the loss (R167). ATTN is asserted while an entry is held (R170). -/
def Clp.enqueue (e : EventEntry) (c : Clp) : Clp :=
  if c.queue.length < Config.maxQueue then { c with queue := c.queue ++ [e], attn := true }
  else if lowestLevel c.queue < e.level then
    { c with queue := removeFirst (fun x => x.level == lowestLevel c.queue) c.queue ++ [e], attn := true
             lost := satInc c.lost, highestLost := max c.highestLost (lowestLevel c.queue) }
  else { c with lost := satInc c.lost, highestLost := max c.highestLost e.level }

/-- Raise an event whose level is at least the floor when it is reported at all (R166). -/
def State.raiseAtLeast (floor : Nat) (k : EventKind) (subject : Subject) (detail : List Byte) (s : State) : State :=
  if s.clp.eventLevel k floor = 0 then s
  else s.modClp (Clp.enqueue ⟨k, s.clp.eventLevel k floor, s.now, subject, detail⟩)

/-- Raise an event (R166). -/
def State.raise (k : EventKind) (subject : Subject) (detail : List Byte) (s : State) : State :=
  s.raiseAtLeast 0 k subject detail

/-- Bring SITE ALARM up to date: asserted while an open record is UNANSWERED (R116). -/
def State.updateSiteAlarm (s : State) : State :=
  { s with als.siteAlarm := s.als.alarms.any (fun r => r.stage == .unanswered) }

end Sys2Proof.Machine
end

