-- ==== Sys2Proof/Machine/Channel.lean ====
section
/-! DEFINITION. Airtimes, windows and the cycle estimate (R6, R45, R46), and the rate table's figures (R11). -/

namespace Sys2Proof.Machine

/-- The airtime of n bytes at b bit/s with keyup delay K (R6). -/
def airtime (k n b : Nat) : Nat := k + ceilDiv ((40 + 8 * n) * 1000) b

/-- A rate table entry computed from its bit rate (R11). -/
def RateEntry.ofRate (b : Nat) : RateEntry :=
  ⟨b, (8064000 + 100 * b - 1) / (100 * b), (76800 + b) / (2 * b)⟩

/-- The entry of a rate class; a class beyond the table has the last entry (R12 keeps every class inside it). -/
def Ale.rateEntry? (a : Ale) (cls : Nat) : Option RateEntry := (a.rateTable[cls]?).orElse fun _ => a.rateTable.getLast?

/-- The class of the slowest rate (R11). -/
def Ale.slowest (a : Ale) : Nat := a.rateTable.length - 1

/-- The noise threshold, half_len of entry 0 (R11). -/
def Ale.noise (a : Ale) : Nat := ((a.rateTable.head?).map (·.halfLen)).getD 0

/-- half_len of a class (R11). -/
def Ale.halfLen (a : Ale) (cls : Nat) : Nat := ((a.rateEntry? cls).map (·.halfLen)).getD 0

/-- The airtime of n bytes at a class; 0 while the rate table is empty (R45). -/
def Ale.airtimeAt (a : Ale) (k n cls : Nat) : Nat :=
  match a.rateEntry? cls with
  | none => 0
  | some r => airtime k n r.rate

/-- W at a class: the POLL, the turnaround, the fullest REPLY and a second turnaround; 0 while the rate table is
empty (R45). -/
def Ale.window (a : Ale) (k t cls : Nat) : Nat :=
  if a.rateTable.isEmpty then 0 else a.airtimeAt k 7 cls + t + a.airtimeAt k 34 cls + t

/-- The open window O; 0 while the rate table is empty (R44, R45). -/
def Ale.openWindow (a : Ale) (k t : Nat) : Nat :=
  if a.rateTable.isEmpty then 0 else t + a.airtimeAt k 8 a.slowest + t

/-- NEVER_HEARD, IN_CONTACT or LATE (R29). -/
def Contact.pollable : Contact → Bool
  | .neverHeard | .inContact | .late => true
  | .lost | .signedOff => false

def UnitRec.pollable (u : UnitRec) : Bool := u.contact.pollable
def UnitRec.isLost (u : UnitRec) : Bool := u.contact == .lost
def UnitRec.signedOn (u : UnitRec) : Bool := u.contact != .signedOff

/-- The units of the pollable set, in ascending order of address (R29). -/
def State.pollables (s : State) : List UnitRec := s.units.filter UnitRec.pollable
/-- The units of the LOST set, in ascending order of address (R29). -/
def State.losts (s : State) : List UnitRec := s.units.filter UnitRec.isLost

/-- The sum of a figure over a list. -/
def sumOf {α : Type} (f : α → Nat) (xs : List α) : Nat := (xs.map f).sum

/-- The slowest rate class among units, the class with the highest index (R45). -/
def slowestClass (us : List UnitRec) : Nat := us.foldl (fun m u => max m u.cls) 0

/-- W_probe: W at the slowest rate class among the LOST units, 0 if there is none (R45). -/
def State.probeWindow (s : State) (k t : Nat) : Nat :=
  if s.losts.isEmpty then 0 else s.ale.window k t (slowestClass s.losts)

/-- ΣW: W of each pollable unit, and once more for each in the double-poll set (R46). -/
def State.sumWindows (s : State) (k t : Nat) : Nat :=
  sumOf (fun u => s.ale.window k t u.cls) s.pollables
    + sumOf (fun u => s.ale.window k t u.cls) (s.pollables.filter (fun u => s.psc.doublePoll.contains u.addr))

/-- The cycle estimate C, with K, T and B as last set (R46). -/
def State.estimateNow (s : State) : Nat :=
  let v := s.psc.timing
  s.sumWindows v.k v.t + s.probeWindow v.k v.t + s.ale.openWindow v.k v.t + v.b

end Sys2Proof.Machine
end

