-- ==== Sys2Proof/Machine/Outbox.lean ====
section
/-! DEFINITION. The outboxes of the Poll Scheduler: serials, demands, replacement, withdrawal and admission
(R48, R49, R54, R55), and the broadcast outbox (R115). -/

namespace Sys2Proof.Machine

/-! ## A unit's outbox -/

/-- The serial after n, from 255 to 0, skipping the values held; fuel is more than their number (R49). -/
def serialAfter (held : List Nat) : Nat → Nat → Nat
  | 0, n => (n + 1) % 256
  | fuel + 1, n => if (n + 1) % 256 ∈ held then serialAfter held fuel ((n + 1) % 256) else (n + 1) % 256

def Entry.isFrom (src : Source) (e : Entry) : Bool := e.source == src
def Demand.isFrom (src : Source) (d : Demand) : Bool := d.source == src

/-- The entry of a source record in a unit's outbox (R48). -/
def UnitRec.entry? (src : Source) (u : UnitRec) : Option Entry := u.outbox.find? (Entry.isFrom src)
/-- The waiting demand of a source record (R54). -/
def UnitRec.demand? (src : Source) (u : UnitRec) : Option Demand := u.waiting.find? (Demand.isFrom src)

/-- A slot is free: the unit is not SIGNED_OFF and its outbox holds fewer than 4 entries (R54). -/
def UnitRec.hasSlot (u : UnitRec) : Bool := u.signedOn && decide (u.outbox.length < Config.maxOutbox)

/-- The next serial moves on past every value an entry of the outbox holds (R49). -/
def UnitRec.advanceSerial (u : UnitRec) : UnitRec :=
  { u with nextSerial := serialAfter (u.outbox.map (·.serial)) (u.outbox.length + 1) u.nextSerial }

/-- An entry enters READY with the next serial and retries left R (R48, R49). -/
def UnitRec.enter (retries : Nat) (t : Millis) (d : Demand) (u : UnitRec) : UnitRec :=
  let e : Entry := ⟨d.source, d.content, d.cls, d.emergency, u.nextSerial, t, retries, false, false⟩
  UnitRec.advanceSerial { u with outbox := u.outbox ++ [e] }

/-- A replacement keeps the entry's slot and takes a new serial, full retries and the time of replacement (R55). -/
def UnitRec.replaceEntry (retries : Nat) (t : Millis) (d : Demand) (u : UnitRec) : UnitRec :=
  let e : Entry := ⟨d.source, d.content, d.cls, d.emergency, u.nextSerial, t, retries, false, false⟩
  UnitRec.advanceSerial { u with outbox := update (Entry.isFrom d.source) (fun _ => e) u.outbox }

/-- A waiting demand that its owner replaces takes the new content, class and time (R55). -/
def UnitRec.replaceDemand (d : Demand) (u : UnitRec) : UnitRec :=
  { u with waiting := update (Demand.isFrom d.source) (fun _ => d) u.waiting }

def UnitRec.addDemand (d : Demand) (u : UnitRec) : UnitRec := { u with waiting := u.waiting ++ [d] }

/-- No entry and no demand of a source is left (R55). -/
def UnitRec.drop (src : Source) (u : UnitRec) : UnitRec :=
  { u with outbox := u.outbox.filter (fun e => !e.isFrom src), waiting := u.waiting.filter (fun d => !d.isFrom src) }

/-! ## What the permit table is told of its frames (R141) -/

/-- The frames whose serial is the live serial: an offer and a SUSPENDED notice (R141). -/
def Content.givesLive : Content → Bool
  | .permitOffer .. => true
  | .permitNotice _ .suspended => true
  | _ => false

def PermitRec.setDelivery (a : Nat) (v : Delivery) (p : PermitRec) : PermitRec :=
  { p with recipients := update (fun r => r.unit == a) (fun r => { r with delivery := v }) p.recipients }

/-- A permit's frame to unit a has taken a serial, or (none) waits for a slot (R141). -/
def PermitRec.noteFrame (a : Nat) (c : Content) (serial : Option Nat) (p : PermitRec) : PermitRec :=
  let q := p.setDelivery a (if serial.isSome then .held else .waiting)
  if p.holder == a && c.givesLive then { q with live := serial } else q

def State.noteFrame (a : Nat) (src : Source) (c : Content) (serial : Option Nat) (s : State) : State :=
  match src with
  | .permit p => s.modPermit p (PermitRec.noteFrame a c serial)
  | _ => s

/-! ## Demands, replacement, withdrawal -/

/-- The demand enters unit u's outbox at once (R54). -/
def State.enterEntry (u : UnitRec) (d : Demand) (s : State) : State :=
  (s.modUnit u.addr (UnitRec.enter s.psc.timing.r s.now d)).noteFrame u.addr d.source d.content (some u.nextSerial)

/-- A demand: it enters at once, or waits when the unit is SIGNED_OFF or its outbox is full (R54). -/
def State.demand (u : UnitRec) (d : Demand) (s : State) : State :=
  if u.hasSlot then s.enterEntry u d
  else (s.modUnit u.addr (UnitRec.addDemand d)).noteFrame u.addr d.source d.content none

/-- An owner's latest instruction for its record: it replaces the record's entry, else its waiting demand, else is a
new demand (R55, R141). -/
def State.send (a : Nat) (src : Source) (c : Content) (cls : Nat) (emergency : Bool) (s : State) : State :=
  match s.unit? a with
  | none => s
  | some u =>
    let d : Demand := ⟨src, c, cls, emergency, s.now⟩
    if (u.entry? src).isSome then
      (s.modUnit a (UnitRec.replaceEntry s.psc.timing.r s.now d)).noteFrame a src c (some u.nextSerial)
    else if (u.demand? src).isSome then
      (s.modUnit a (UnitRec.replaceDemand d)).noteFrame a src c none
    else s.demand u d

/-! ## Admission -/

/-- The owner order of admission, and the record's reference within its owner (R54). A closing notice item stands
before its namesake permit's demand (DESIGN CHOICE, log 14). -/
def Source.rank : Source → Nat × Nat × Nat
  | .closedCopy p => (0, p, 0)
  | .permit p => (0, p, 1)
  | .step x => (1, x, 0)
  | .worker w => (2, w, 0)
  | .order h => (3, h, 0)

def rankBefore (x y : Nat × Nat × Nat) : Bool :=
  decide (x.1 < y.1) || (x.1 == y.1 && (decide (x.2.1 < y.2.1) || (x.2.1 == y.2.1 && decide (x.2.2 < y.2.2))))

/-- Admission takes the highest class, then the oldest time of demand, then the owner order (R54). -/
def Demand.before (x y : Demand) : Bool :=
  decide (y.cls < x.cls)
    || (x.cls == y.cls && (decide (x.time < y.time) || (x.time == y.time && rankBefore x.source.rank y.source.rank)))

/-- A closing notice item as a demand of PMT (R152). -/
def ClosingItem.demand (i : ClosingItem) : Demand :=
  ⟨.closedCopy i.permit, .permitNotice i.permit .closed, 2, false, i.time⟩

/-- The demands that wait for a unit's outbox, closing notice items included (R54, R152). -/
def State.waitingFor (u : UnitRec) (s : State) : List Demand :=
  (s.pmt.closing.filter (fun i => i.unit == u.addr)).map ClosingItem.demand ++ u.waiting

/-- A demand that has been admitted waits no more (R54, R152). -/
def State.unwait (a : Nat) (d : Demand) (s : State) : State :=
  match d.source with
  | .closedCopy p =>
    { s with pmt.closing := removeFirst (fun i => i.permit == p && i.unit == a && i.time == d.time) s.pmt.closing }
  | _ => s.modUnit a (fun u => { u with waiting := removeFirst (Demand.isFrom d.source) u.waiting })

/-- Admit the best waiting demand if a slot is free (R54). -/
def State.admitOne (a : Nat) (s : State) : State :=
  match s.unit? a with
  | none => s
  | some u =>
    if u.hasSlot then
      match bestOf Demand.before (s.waitingFor u) with
      | none => s
      | some d => (s.unwait a d).enterEntry u d
    else s

def State.admitTimes (a : Nat) : Nat → State → State
  | 0, s => s
  | n + 1, s => (s.admitOne a).admitTimes a n

/-- Admission repeats until the outbox is full or no demand waits (R54). -/
def State.admitWaiting (a : Nat) (s : State) : State := s.admitTimes a Config.maxOutbox

/-- A withdrawal removes the entry or the waiting demand and frees the slot for admission (R55). -/
def State.withdraw (a : Nat) (src : Source) (s : State) : State := (s.modUnit a (UnitRec.drop src)).admitWaiting a

/-- Whether a source record holds an entry or a demand for a unit (R54). -/
def State.holdsFrame (a : Nat) (src : Source) (s : State) : Bool :=
  match s.unit? a with
  | none => false
  | some u => (u.entry? src).isSome || (u.demand? src).isSome

/-! ## The broadcast outbox -/

/-- The alarm's ALLCALL enters the broadcast outbox (R115). -/
def State.enterCall (alarm : Nat) (s : State) : State :=
  (s.modPsc (fun p => { p with broadcast := p.broadcast ++ [⟨alarm, s.now, false⟩] })).modAlarm alarm
    (fun r => { r with allCall := .queued })

/-- Demand an all-call: QUEUED with a free slot, else WAITING with the time of demand (R115). -/
def State.demandCall (alarm : Nat) (s : State) : State :=
  if s.psc.broadcast.length < Config.maxBroadcast then s.enterCall alarm
  else s.modAlarm alarm (fun r => { r with allCall := .waiting s.now })

/-- The alarms whose all-call demand waits, with the time of demand (R115). -/
def State.waitingCalls (s : State) : List (Nat × Millis) :=
  s.als.alarms.filterMap (fun r =>
    match r.allCall with
    | .waiting t => some (r.id, t)
    | _ => none)

/-- The oldest time of demand first, equal times in order of alarm id (R115). -/
def callBefore (x y : Nat × Millis) : Bool := decide (x.2 < y.2) || (x.2 == y.2 && decide (x.1 < y.1))

def State.admitCallOne (s : State) : State :=
  if s.psc.broadcast.length < Config.maxBroadcast then
    match bestOf callBefore s.waitingCalls with
    | none => s
    | some (a, _) => s.enterCall a
  else s

/-- Admission to the broadcast outbox (R54, R115). -/
def State.admitCalls (s : State) : State := s.admitCallOne.admitCallOne

/-- Drop an alarm's demand or withdraw its entry (R110). -/
def State.withdrawCall (alarm : Nat) (s : State) : State :=
  ((s.modAlarm alarm (fun r => { r with allCall := .notWanted })).modPsc
    (fun p => { p with broadcast := p.broadcast.filter (fun e => e.alarm != alarm) })).admitCalls

end Sys2Proof.Machine
end

