-- ==== Sys2Proof/Machine/Lwm.lean ====
section
/-! DEFINITION. Workers' intervals, deadlines and states, and the publication of the cycle estimate
(R46, R87 to R91, R95). -/

namespace Sys2Proof.Machine

/-! ## The contact assurance computation -/

/-- The minimum assurable interval M in milliseconds (R87). -/
def Lwm.minimum (l : Lwm) : Nat := 2 * l.estimate + l.grace

/-- M rounded up to whole seconds (R87). -/
def Lwm.assurable (l : Lwm) : Nat := (l.minimum + 999) / 1000

/-- The effective interval E for a hazard base (R87). -/
def Lwm.effective (l : Lwm) (base : Nat) : Nat := max base l.assurable

/-- The stretched flag for a hazard base (R87). -/
def Lwm.stretches (l : Lwm) (base : Nat) : Bool := decide (base < l.assurable)

/-- The hazard base of a unit's record (R21). -/
def State.hazardOf (a : Nat) (s : State) : Nat := ((s.unit? a).map (·.hazard)).getD s.lwm.intervals.general

/-- WORKER_STRETCHED: E, the hazard base, M and the flag (R87). -/
def State.raiseStretched (w : WorkerRec) (s : State) : State :=
  s.raise .workerStretched (.worker w.id)
    (u16 w.interval ++ u16 (s.hazardOf w.unit) ++ u32 s.lwm.minimum ++ yesNo w.stretched)

/-! ## Falling due -/

/-- The worker enters DUE now: the deadline goes, the prompt window opens, a CHECKIN_REQUEST is demanded and
WORKER_DUE is raised (R95). -/
def State.fallDue (id : Nat) (s : State) : State :=
  match s.worker? id with
  | none => s
  | some w =>
    ((s.modWorker id (fun r => { r with state := .due, deadline := none
                                        windowEnd := some (s.now + 1000 * s.lwm.intervals.prompt) })).send
      w.unit (.worker id) (.prompt w.slot .checkinRequest) 3 false).raise
        .workerDue (.worker id) (u8 w.unit ++ u8 w.slot ++ optTime w.lastCheckin ++ u16 w.interval)

/-- The rebase of a worker in OK: the deadline is the last check-in plus E, and the worker falls DUE at once if that
is not later than now (R89). -/
def State.rebase (id : Nat) (s : State) : State :=
  match s.worker? id with
  | none => s
  | some w =>
    if w.state == .ok then
      if w.lastCheckin.getD 0 + 1000 * w.interval ≤ s.now then s.fallDue id
      else s.modWorker id (fun r => { r with deadline := some (w.lastCheckin.getD 0 + 1000 * w.interval) })
    else s

/-- Recompute one worker's E and stretched flag, with the event R87 calls for, and rebase a worker in OK (R88). -/
def State.recomputeWorker (id : Nat) (s : State) : State :=
  match s.worker? id with
  | none => s
  | some w =>
    let e := s.lwm.effective (s.hazardOf w.unit)
    let f := s.lwm.stretches (s.hazardOf w.unit)
    let s1 := s.modWorker id (fun r => { r with interval := e, stretched := f })
    let s2 :=
      if w.state != .inactive && (w.stretched != f || (w.interval != e && w.stretched && f)) then
        s1.raiseStretched { w with interval := e, stretched := f }
      else s1
    s2.rebase id

/-- Recompute the workers named, in the order given (R88; log 32). -/
def State.recomputeWorkers (ids : List Nat) (s : State) : State := ids.foldl (fun s i => s.recomputeWorker i) s

/-- LWM takes an estimate and a grace: if either differs from its copy, every worker is recomputed once, in the order of
the records (R88; log 32). -/
def State.publish (c g : Nat) (s : State) : State :=
  if c = s.lwm.estimate ∧ g = s.lwm.grace then s
  else { s with lwm.estimate := c, lwm.grace := g }.recomputeWorkers (s.lwm.workers.map WorkerRec.id)

/-- PSC recomputes C, publishes it with the grace held, and raises CYCLE_ESTIMATE for a new value (R46, R88). -/
def State.recomputeEstimateWith (g : Nat) (s : State) : State :=
  let c := s.estimateNow
  if c = s.psc.estimate then s.publish c g
  else ((s.modPsc (fun p => { p with estimate := c })).publish c g).raise .cycleEstimate .base
    (u32 s.psc.estimate ++ u32 c)

/-- PSC recomputes C; a value equal to the old one is neither published nor reported (R46). -/
def State.recomputeEstimate (s : State) : State := s.recomputeEstimateWith s.lwm.grace

/-! ## Entering the states -/

/-- The later of the last check-in held and the time given (R90, R93). -/
def WorkerRec.laterCheckin (w : WorkerRec) (t : Millis) : Millis := max (w.lastCheckin.getD 0) t

/-- Drop a worker's PROMPT (R96). -/
def State.dropPrompt (w : WorkerRec) (s : State) : State := s.withdraw w.unit (.worker w.id)

/-- The worker enters OK with the check-in time given (R90). -/
def State.enterOk (id : Nat) (t : Millis) (s : State) : State :=
  match s.worker? id with
  | none => s
  | some w =>
    let s1 := s.modWorker id (fun r => { r with
      state := .ok, lastCheckin := some (w.laterCheckin t), windowEnd := none
      lastCondition := if w.state == .inactive then none else w.lastCondition })
    let s2 := s1.dropPrompt w
    let s3 := if w.state == .inactive && w.stretched then s2.raiseStretched w else s2
    s3.rebase id

/-- The worker enters INACTIVE: no deadline, window, prompt or last condition; the last check-in is kept (R90). -/
def State.enterInactive (id : Nat) (s : State) : State :=
  match s.worker? id with
  | none => s
  | some w =>
    (s.modWorker id (fun r => { r with
      state := .inactive, deadline := none, windowEnd := none, lastCondition := none })).dropPrompt w

/-- The worker enters ALARM: no deadline, window or prompt (R101). -/
def State.enterAlarm (id : Nat) (s : State) : State :=
  match s.worker? id with
  | none => s
  | some w => (s.modWorker id (fun r => { r with state := .alarm, deadline := none, windowEnd := none })).dropPrompt w

end Sys2Proof.Machine
end

