-- ==== Sys2Proof/Machine/Als.lean ====
section
/-! DEFINITION. The Alarm List: causes, window ends, acknowledgement, and the double-poll set (R105 to R117). -/

namespace Sys2Proof.Machine

/-! ## Causes -/

def CauseSet.of (c : Cause) : CauseSet := ⟨c == .missedCheckin, c == .manDown, c == .panic⟩

def CauseSet.has (c : Cause) (x : CauseSet) : Bool :=
  match c with
  | .missedCheckin => x.missedCheckin
  | .manDown => x.manDown
  | .panic => x.panic

def CauseSet.add (c : Cause) (x : CauseSet) : CauseSet :=
  match c with
  | .missedCheckin => { x with missedCheckin := true }
  | .manDown => { x with manDown := true }
  | .panic => { x with panic := true }

/-- The stage counts for the double-poll set and waits for an acknowledgement (R117). -/
def Stage.waits : Stage → Bool
  | .raised | .unanswered => true
  | .responding => false

/-- The end of an acknowledgement window opened now (R118). -/
def State.ackWindowEnd (s : State) : Millis := s.now + 1000 * s.als.ackWindow

/-- The record of a new alarm (R107 step 1). -/
def State.newAlarm (w : WorkerRec) (c : Cause) (s : State) : AlarmRec :=
  { id := s.als.nextId, worker := w.id, unit := w.unit, slot := w.slot, causes := CauseSet.of c, stage := .raised
    raises := 1, opened := s.now, lastRaised := s.now, windowEnd := some s.ackWindowEnd, passed := 0
    allCall := .notWanted, sent := 0 }

/-- The next alarm id moves on, skipping every id an open record holds (R106). -/
def Als.advanceId (a : Als) : Als :=
  { a with nextId := Machine.nextId 65535 (a.alarms.map AlarmRec.id) (a.alarms.length + 1) a.nextId }

/-- Open an alarm: the record, the worker ALARM, ALARM_RAISED (R107). -/
def State.openAlarm (w : WorkerRec) (c : Cause) (s : State) : State :=
  let r := s.newAlarm w c
  ({ s with als := ({ s.als with alarms := s.als.alarms ++ [r] }).advanceId }.enterAlarm w.id).raise
    .alarmRaised (.alarm r.id) (u16 w.id ++ u8 w.unit ++ u8 w.slot ++ u8 c.code ++ u8 1)

/-- Merge a cause into an open record; a RESPONDING record is raised again (R108). -/
def State.mergeCause (r : AlarmRec) (c : Cause) (s : State) : State :=
  let causes := r.causes.add c
  let q : AlarmRec :=
    if r.stage == .responding then
      { r with causes := causes, stage := .raised, raises := min 255 (r.raises + 1), lastRaised := s.now
               windowEnd := some s.ackWindowEnd, passed := 0 }
    else { r with causes := causes }
  (s.modAlarm r.id (fun _ => q)).raise .alarmCauseAdded (.alarm r.id)
    (u8 c.code ++ yesNo (!r.causes.has c) ++ u8 causes.code ++ u8 q.stage.code ++ u8 q.raises)

/-- The open alarm of a worker (R109). -/
def State.alarmOf? (worker : Nat) (s : State) : Option AlarmRec := s.als.alarms.find? (fun r => r.worker == worker)

/-- LWM hands a cause: alarm check-in reported becomes no, and the alarm is opened or merged (R101, R107, R108). -/
def State.handCause (worker : Nat) (c : Cause) (s : State) : State :=
  match s.worker? worker with
  | none => s
  | some w =>
    let s1 := s.modWorker worker (fun r => { r with alarmReported := false })
    match s1.alarmOf? worker with
    | none => s1.openAlarm w c
    | some r => s1.mergeCause r c

/-! ## Escalation -/

/-- An acknowledgement window has run out: UNANSWERED with a new window, one more passed, ALARM_UNANSWERED
(R113, R114). -/
def State.passWindow (r : AlarmRec) (s : State) : State :=
  (s.modAlarm r.id (fun q => { q with
    stage := .unanswered, windowEnd := some s.ackWindowEnd, passed := satInc q.passed })).raise
      .alarmUnanswered (.alarm r.id)
      (u16 r.worker ++ u8 r.unit ++ u8 r.slot ++ u8 r.causes.code ++ u8 r.raises ++ u16 (satInc r.passed))

/-- The window end of a RAISED record (R113). -/
def State.raisedWindowEnd (r : AlarmRec) (s : State) : State := ((s.passWindow r).demandCall r.id).updateSiteAlarm

/-- The window end of an UNANSWERED record: a further all-call unless one is waiting, queued or on air (R114). -/
def State.unansweredWindowEnd (r : AlarmRec) (s : State) : State :=
  if r.allCall == .notWanted then (s.passWindow r).demandCall r.id else s.passWindow r

/-- PSC tells that an alarm's all-call was sent (R115). -/
def State.callSent (alarm : Nat) (s : State) : State :=
  s.modAlarm alarm (fun r => { r with allCall := .notWanted, sent := satInc r.sent })

/-! ## The double-poll set -/

/-- LWM and ALS hold a reason to poll the unit twice (R117). -/
def State.wantsDouble (a : Nat) (s : State) : Bool :=
  s.lwm.workers.any (fun w => w.unit == a && (w.state == .due || w.state == .prealert))
    || s.als.alarms.any (fun r => r.unit == a && r.stage.waits)

/-- The first unit, by address, whose membership has changed (R117). -/
def State.changedUnit? (s : State) : Option Nat :=
  (s.units.map (·.addr) ++ s.psc.doublePoll).find? (fun a => s.wantsDouble a != s.psc.doublePoll.contains a)

/-- ALS tells PSC of a unit that enters or leaves the set, and PSC recomputes C (R47, R117). -/
def State.toggleDouble (a : Nat) (s : State) : State :=
  let set :=
    if s.wantsDouble a then insertBefore (fun b => decide (a < b)) a s.psc.doublePoll
    else s.psc.doublePoll.filter (fun b => b != a)
  (s.modPsc (fun p => { p with doublePoll := set })).recomputeEstimate

def State.settleTimes : Nat → State → State
  | 0, s => s
  | n + 1, s =>
    match s.changedUnit? with
    | none => s
    | some a => (s.toggleDouble a).settleTimes n

/-- Once a whole event has been taken, ALS looks at every unit's membership (R117). A recomputation may make further
workers fall DUE, so it looks again until none has changed: a unit leaves the set and enters it at most once (log 12). -/
def State.settle (s : State) : State := s.settleTimes (2 * (s.units.length + s.psc.doublePoll.length))

/-! ## Requests -/

/-- ACK ALARM (R110). -/
def State.reqAckAlarm (alarm count : Nat) (s : State) : Answer :=
  if s.runState == .loading then s.refuse .notOperating []
  else if alarm < 1 || 65535 < alarm then s.outOfRange 1
  else if count < 1 || 255 < count then s.outOfRange 2
  else
    match s.alarm? alarm with
    | none => s.refuse .stale [255, 255]
    | some r =>
      if r.raises != count then s.refuse .stale (u8 r.raises ++ u8 r.stage.code)
      else if r.stage == .responding then s.accept (u8 Stage.responding.code)
      else
        let s1 := s.modAlarm alarm (fun q => { q with stage := .responding, windowEnd := none })
        (((s1.withdrawCall alarm).updateSiteAlarm).raise .alarmAcknowledged (.alarm alarm)
          (u8 r.raises ++ u8 r.stage.code ++ u16 r.sent)).accept (u8 Stage.responding.code)

/-- RESOLVE ALARM; WRONG_STATE gives the stage, and alarm check-in reported keeps its value (R84, R111; logs 31, 34). -/
def State.reqResolveAlarm (alarm : Nat) (s : State) : Answer :=
  if s.runState == .loading then s.refuse .notOperating []
  else if alarm < 1 || 65535 < alarm then s.outOfRange 1
  else
    match s.alarm? alarm with
    | none => s.refuse .notFound (u16 alarm)
    | some r =>
      if r.stage != .responding then s.refuse .wrongState (u8 r.stage.code)
      else
        let s1 := s.raise .alarmResolved (.alarm alarm)
          (u16 r.worker ++ u8 r.unit ++ u8 r.causes.code ++ u8 r.raises ++ u48 r.opened ++ u16 r.sent)
        (({ s1 with als.alarms := s1.als.alarms.filter (fun q => q.id != alarm) }.enterOk r.worker s.now)).accept []

/-- An alarm record as QUERY ALARMS gives it (R119). -/
def AlarmRec.bytes (r : AlarmRec) : List Byte :=
  u16 r.id ++ u16 r.worker ++ u8 r.unit ++ u8 r.slot ++ u8 r.causes.code ++ u8 r.stage.code ++ u8 r.raises
    ++ u48 r.opened ++ u48 r.lastRaised ++ optTime r.windowEnd ++ u16 r.passed ++ u8 r.allCall.code ++ u16 r.sent

/-- QUERY ALARMS; an alarm id of 0 stands for none given, and the level of SITE ALARM is 1 for asserted (R119, R183;
log 10). -/
def State.reqQueryAlarms (alarm : Nat) (s : State) : Answer :=
  if alarm = 0 then
    s.accept (yesNo s.als.siteAlarm ++ u16 s.als.ackWindow ++ listBytes u8 s.psc.doublePoll
      ++ listBytes AlarmRec.bytes s.als.alarms)
  else
    match s.alarm? alarm with
    | none => s.refuse .notFound (u16 alarm)
    | some r => s.accept r.bytes

end Sys2Proof.Machine
end

