-- ==== Sys2Proof/Machine/Workers.lean ====
section
/-! DEFINITION. Worker reports, check-ins and prompts, and the requests on workers (R85, R86, R92 to R104). -/

namespace Sys2Proof.Machine

/-! ## Reports and check-ins -/

/-- The detail unit, slot and condition; 255 when a crew check-in reports no condition (log 10). -/
def WorkerRec.conditionDetail (w : WorkerRec) (c : Option Condition) : List Byte :=
  u8 w.unit ++ u8 w.slot ++ u8 ((c.map (·.code)).getD 255)

/-- The last check-in moves to t, never back (R93). -/
def State.noteCheckin (id : Nat) (t : Millis) (s : State) : State :=
  s.modWorker id (fun r => { r with lastCheckin := some (r.laterCheckin t) })

/-- A check-in: the worker's own report of a condition, or (none) a crew check-in (R93). -/
def State.checkIn (id : Nat) (own : Option Condition) (t : Millis) (s : State) : State :=
  match s.worker? id with
  | none => s
  | some w =>
    match w.state with
    | .inactive => s
    | .ok => (s.noteCheckin id t).rebase id
    | .due => (s.enterOk id t).raise .dueCleared (.worker id) (w.conditionDetail own)
    | .prealert =>
      if own.isSome then (s.enterOk id t).raise .prealertCancelled (.worker id) (w.conditionDetail own)
      else s.noteCheckin id t
    | .alarm =>
      let s1 := s.noteCheckin id t
      if own.isSome && !w.alarmReported then
        (s1.raise .checkinInAlarm (.worker id) []).modWorker id (fun r => { r with alarmReported := true })
      else s1

/-- A crew check-in of every worker of the unit, by slot (R34, R93; log 32). -/
def State.crewCheckIn (a : Nat) (t : Millis) (s : State) : State :=
  ((s.workersOf a).map WorkerRec.id).foldl (fun s i => s.checkIn i none t) s

/-- A worker in OK or DUE enters PREALERT: cancel window, CANCEL_QUERY, WORKER_PREALERT (R98). -/
def State.enterPrealert (w : WorkerRec) (t : Millis) (s : State) : State :=
  let e := t + 1000 * s.lwm.intervals.cancel
  ((s.modWorker w.id (fun r => { r with state := .prealert, deadline := none, windowEnd := some e })).send
    w.unit (.worker w.id) (.prompt w.slot .cancelQuery) 3 false).raise
      .workerPrealert (.worker w.id) (u8 w.unit ++ u8 w.slot ++ u48 e)

/-- A fresh MAN_DOWN (R98). -/
def State.manDown (w : WorkerRec) (t : Millis) (s : State) : State :=
  match w.state with
  | .ok | .due => s.enterPrealert w t
  | .alarm => s.handCause w.id .manDown
  | .prealert | .inactive => s

/-- What a report of a condition does to a worker that is not INACTIVE (R92). -/
def State.actOnReport (w : WorkerRec) (c : Condition) (fresh : Bool) (t : Millis) (s : State) : State :=
  match c with
  | .ok | .cancel => s.checkIn w.id (some c) t
  | .noTag => if fresh then s.raise .tagNotHeard (.worker w.id) (u8 w.unit ++ u8 w.slot) else s
  | .manDown => if fresh then s.manDown w t else s
  | .panic => if fresh then s.handCause w.id .panic else s

/-- The alarm cause a condition names, coded by R105; the other conditions name none. -/
def Condition.causeCode : Condition → Nat
  | .manDown => Cause.manDown.code
  | .panic => Cause.panic.code
  | _ => 0

/-- The condition is one that raises UNASSIGNED_ALERT for an empty slot (R92). -/
def Condition.isAlert : Condition → Bool
  | .manDown | .panic => true
  | _ => false

/-- One worker report, or an ALERT as one report of its cause (R92). -/
def State.report (a slot : Nat) (c : Condition) (alert : Bool) (t : Millis) (s : State) : State :=
  match s.lwm.workers.find? (fun w => w.unit == a && w.slot == slot) with
  | none => if c.isAlert then s.raise .unassignedAlert (.unit a) (u8 slot ++ u8 c.causeCode) else s
  | some w =>
    if w.state == .inactive then s
    else
      (s.actOnReport w c (alert || w.lastCondition != some c) t).modWorker w.id
        (fun r => { r with lastCondition := some c })

/-- A PROMPT has gone unacknowledged (R96). -/
def State.promptUnacknowledged (id : Nat) (p : Prompt) (s : State) : State :=
  match s.worker? id with
  | none => s
  | some w => s.raise .promptUnacknowledged (.worker id) (u8 w.unit ++ u8 w.slot ++ u8 p.code)

/-! ## Timed events -/

/-- The end of a worker's prompt window (R97). -/
def State.promptWindowEnd (id : Nat) (s : State) : State := s.handCause id .missedCheckin

/-- The end of a worker's cancel window (R99). -/
def State.cancelWindowEnd (id : Nat) (s : State) : State := s.handCause id .manDown

/-! ## Requests -/

/-- The lowest slot of a unit that no worker holds (R85). -/
def State.freeSlot (a : Nat) (s : State) : Nat :=
  ((List.range Config.maxSlots).find? (fun i => !(s.workersOf a).any (fun w => w.slot == i))).getD Config.maxSlots

/-- A worker record stands in order of unit and slot (R84). -/
def WorkerRec.standsAfter (x y : WorkerRec) : Bool :=
  decide (x.unit < y.unit) || (x.unit == y.unit && decide (x.slot < y.slot))

def State.addWorker (w : WorkerRec) (s : State) : State :=
  { s with lwm.workers := insertBefore w.standsAfter w s.lwm.workers }

def State.removeWorkerRec (id : Nat) (s : State) : State :=
  { s with lwm.workers := s.lwm.workers.filter (fun w => w.id != id) }

/-- The worker's slot, state, E and stretched flag (R85, R102). -/
def State.workerReply (id : Nat) (s : State) : List Byte :=
  match s.worker? id with
  | none => []
  | some w => u8 w.slot ++ u8 w.state.code ++ u16 w.interval ++ yesNo w.stretched

/-- A unit that is not SIGNED_OFF, in OPERATING: its workers are OK (R85, R24). -/
def State.startsWorkers (u : UnitRec) (s : State) : Bool := s.runState == .operating && u.signedOn

/-- DEFINE WORKER; alarm check-in reported starts at no (R84, R85; log 34). -/
def State.reqDefineWorker (id a : Nat) (s : State) : Answer :=
  if id < 1 || 65535 < id then s.outOfRange 1
  else if a < 1 || 239 < a then s.outOfRange 2
  else
    match s.unit? a with
    | none => s.refuse .notFound (u8 a)
    | some u =>
      if (s.worker? id).isSome then s.refuse .exists_ (u16 id)
      else if Config.maxSlots ≤ (s.workersOf a).length || Config.maxWorkers ≤ s.lwm.workers.length then
        s.refuse .full (u8 2)
      else
        let w : WorkerRec :=
          { id := id, unit := a, slot := s.freeSlot a, state := .inactive, lastCheckin := none
            interval := s.lwm.effective u.hazard, stretched := s.lwm.stretches u.hazard, deadline := none
            windowEnd := none, lastCondition := none, alarmReported := false }
        let s1 := s.addWorker w
        let s2 := if s.startsWorkers u then s1.enterOk id s.now else s1
        s2.accept (s2.workerReply id)

/-- MOVE WORKER; WRONG_STATE gives the worker's state (R102; log 31). -/
def State.reqMoveWorker (id a : Nat) (s : State) : Answer :=
  match s.worker? id, s.unit? a with
  | none, _ => s.refuse .notFound (u16 id)
  | some _, none => s.refuse .notFound (u8 a)
  | some w, some u =>
    if w.state == .due || w.state == .prealert || w.state == .alarm then s.refuse .wrongState (u8 w.state.code)
    else if w.unit == a then s.refuse .wrongState (u8 w.state.code)
    else if Config.maxSlots ≤ (s.workersOf a).length then s.refuse .full (u8 2)
    else
      let s1 := s.removeWorkerRec id
      let s2 := s1.addWorker { w with unit := a, slot := s1.freeSlot a, lastCondition := none }
      let s3 := s2.recomputeWorker id
      let s4 :=
        if w.state == .ok && !u.signedOn then s3.enterInactive id
        else if w.state == .inactive && s.startsWorkers u then s3.enterOk id s.now
        else s3
      s4.accept (s4.workerReply id)

/-- REMOVE WORKER; WRONG_STATE gives the worker's state (R103; log 31). -/
def State.reqRemoveWorker (id : Nat) (s : State) : Answer :=
  match s.worker? id with
  | none => s.refuse .notFound (u16 id)
  | some w =>
    if w.state == .alarm then s.refuse .wrongState (u8 w.state.code)
    else ((s.dropPrompt w).removeWorkerRec id).accept []

/-- Where a source record's frame stands: its serial, state and retries left, or a mark that the demand waits
(255) or that there is none (254); under a mark the serial is 0 and the retries are all ones (R83, R104, R138, R183;
log 10). -/
def State.frameStanding (a : Nat) (src : Source) (s : State) : List Byte :=
  match s.unit? a with
  | none => u8 0 ++ u8 254 ++ u8 255
  | some u =>
    match u.entry? src with
    | some e => u8 e.serial ++ u8 (if e.awaiting then 2 else 1) ++ u8 e.retries
    | none => if (u.demand? src).isSome then u8 0 ++ u8 255 ++ u8 255 else u8 0 ++ u8 254 ++ u8 255

/-- Every field of a worker record; alarm check-in reported stands outside ALARM as it was last set (R84, R104; log 34). -/
def WorkerRec.bytes (w : WorkerRec) : List Byte :=
  u16 w.id ++ u8 w.unit ++ u8 w.slot ++ u8 w.state.code ++ optTime w.lastCheckin ++ u16 w.interval
    ++ yesNo w.stretched ++ optTime w.deadline ++ optTime w.windowEnd
    ++ u8 ((w.lastCondition.map (·.code)).getD 0) ++ yesNo w.alarmReported

/-- A worker in the list of a unit (R104). -/
def WorkerRec.listBytes (w : WorkerRec) : List Byte :=
  u16 w.id ++ u8 w.slot ++ u8 w.state.code ++ u16 w.interval ++ yesNo w.stretched
    ++ optTime (w.deadline.orElse fun _ => w.windowEnd)

/-- QUERY WORKER (R104). -/
def State.reqQueryWorker (sel : Selector) (s : State) : Answer :=
  match sel with
  | .record id =>
    match s.worker? id with
    | none => s.refuse .notFound (u16 id)
    | some w =>
      s.accept (w.bytes ++ u16 (s.hazardOf w.unit) ++ u32 s.lwm.minimum ++ s.frameStanding w.unit (.worker id))
  | .unit a =>
    match s.unit? a with
    | none => s.refuse .notFound (u8 a)
    | some _ => s.accept (Machine.listBytes WorkerRec.listBytes (s.workersOf a))

end Sys2Proof.Machine
end

