-- ==== Sys2Proof/Machine/Wos.lean ====
section
/-! DEFINITION. The Work Order Store: states and the frames they want, delivery, crew progress, the permit gate,
recall, the hazard base, and the requests on orders (R62 to R83). -/

namespace Sys2Proof.Machine

/-! ## Segments and wanted frames -/

/-- The segment count, ceil(length / 40) (R62). -/
def OrderRec.segments (o : OrderRec) : Nat := (o.text.length + 39) / 40

/-- The SEGMENT of an index (R66). -/
def OrderRec.segment (o : OrderRec) (i : Nat) : Content :=
  .segment o.handle i o.segments ((o.text.drop (Config.segmentBytes * i)).take Config.segmentBytes)

/-- The traffic class of an order's segments (R50, R66). -/
def Priority.segmentClass : Priority → Nat
  | .routine => 0
  | .urgent | .emergency => 1

/-- PROCEEDING or WORKING: counted in the hazard base (R81). -/
def OrderState.counted : OrderState → Bool
  | .proceeding | .working => true
  | _ => false

/-- The frame a state wants, its class and its emergency mark; a RECALL is given its class by R79, from the state
before (R66). -/
def OrderRec.wanted (o : OrderRec) (recallClass : Nat) : Option (Content × Nat × Bool) :=
  match o.state with
  | .sending => some (o.segment o.segAcked, o.priority.segmentClass, o.priority == .emergency)
  | .proceeding => some (.orderNotice o.handle .proceed, 2, false)
  | .stopped => some (.orderNotice o.handle .stop, 3, false)
  | .recalling => some (.orderNotice o.handle .recall, recallClass, false)
  | _ => none

/-- An outstanding STOP stays in place of the state's own frame (R66). -/
def OrderRec.keepsStop (o : OrderRec) : Bool :=
  o.stopOut && !(o.state == .proceeding || o.state == .recalling || o.state == .stopped)

/-- On entering a state, WOS places, replaces or withdraws the order's one entry (R66). -/
def State.placeFrame (h recallClass : Nat) (s : State) : State :=
  match s.order? h with
  | none => s
  | some o =>
    if o.keepsStop then s
    else
      match o.wanted recallClass with
      | some (c, cls, em) => s.send o.unit (.order h) c cls em
      | none => s.withdraw o.unit (.order h)

/-! ## ORDER_STATE and the hazard base -/

/-- ORDER_STATE: number, unit, previous state (a mark for a new order), new state, cause, the permit of a permit
change, and the phrase flag (R82, R184). -/
def State.raiseOrderState (o : OrderRec) (before : Option OrderState) (after : OrderState) (cause : OrderCause)
    (permit : Option Nat) (phrase : Bool) (s : State) : State :=
  s.raiseAtLeast (if after == .failed || after == .blocked then 2 else 0) .orderState (.order o.handle)
    (u32 o.number ++ u8 o.unit ++ u8 ((before.map (·.code)).getD 255) ++ u8 after.code ++ u8 cause.code
      ++ (match permit with
          | some p => u16 p
          | none => [])
      ++ yesNo phrase)

/-- The class base interval of a hazard class (R86). -/
def Intervals.base (v : Intervals) : Hazard → Nat
  | .general => v.general
  | .elevated => v.elevated
  | .isolated => v.isolated
  | .live => v.live

/-- The shortest of a list of intervals, none for an empty list. -/
def shortest : List Nat → Option Nat
  | [] => none
  | x :: xs => some (xs.foldl min x)

/-- The hazard base of a unit, from its orders in PROCEEDING or WORKING (R81). -/
def State.hazardNow (a : Nat) (s : State) : Nat :=
  (shortest (((s.ordersOf a).filter (fun o => o.state.counted)).map (fun o => s.lwm.intervals.base o.hazard))).getD
    s.lwm.intervals.general

/-- Recompute a unit's hazard base; a new value is written to the unit record and its workers are recomputed, by slot
(R81, R88; log 32). -/
def State.recomputeHazard (a : Nat) (s : State) : State :=
  if s.hazardNow a = s.hazardOf a then s
  else (s.modUnit a (fun u => { u with hazard := s.hazardNow a })).recomputeWorkers ((s.workersOf a).map WorkerRec.id)

/-! ## Moving an order -/

/-- An order on entering a state: stop outstanding becomes yes when a STOP is placed and no when a PROCEED or a RECALL
replaces it (R66); a resume point stands in BLOCKED only (R62). -/
def OrderRec.enter (st : OrderState) (o : OrderRec) : OrderRec :=
  { o with state := st, stopOut := st == .stopped || (o.stopOut && !(st == .proceeding || st == .recalling))
           resume := if st == .blocked then o.resume else none }

/-- The class of a RECALL, from the order before it: SAFETY for a PROCEEDING or WORKING order, or in place of an
outstanding STOP (R79). -/
def OrderRec.recallClass (o : OrderRec) : Nat := if o.state.counted || o.stopOut then 3 else 2

/-- An order enters a state that keeps its record: its frame, ORDER_STATE, and the hazard base if the order enters or
leaves the states counted (R66, R81, R82). -/
def State.moveOrder (h : Nat) (st : OrderState) (cause : OrderCause) (permit : Option Nat) (phrase : Bool)
    (s : State) : State :=
  match s.order? h with
  | none => s
  | some o =>
    let s1 := (s.modOrder h (OrderRec.enter st)).placeFrame h o.recallClass
    let s2 := s1.raiseOrderState o (some o.state) st cause permit phrase
    if o.state.counted || st.counted then s2.recomputeHazard o.unit else s2

/-- Higher priority first; the earlier posted where neither is higher (R65). -/
def OrderRec.urgentThan (x y : OrderRec) : Bool := decide (y.priority.code < x.priority.code)

/-- The choice of a unit's next SENDING order (R65). -/
def State.chooseSending (a : Nat) (s : State) : State :=
  match s.unit? a with
  | none => s
  | some u =>
    if u.signedOn && !(s.ordersOf a).any (fun o => o.state == .sending) then
      match bestOf OrderRec.urgentThan ((s.ordersOf a).filter (fun o => o.state == .posted)) with
      | none => s
      | some o => s.moveOrder o.handle .sending .posting none false
    else s

/-- An order enters a terminal state: its frame is withdrawn, ORDER_STATE raised, the record freed, the hazard base
and the unit's delivery brought up to date (R80). -/
def State.endOrder (h : Nat) (st : OrderState) (cause : OrderCause) (s : State) : State :=
  match s.order? h with
  | none => s
  | some o =>
    let s1 := (s.withdraw o.unit (.order h)).raiseOrderState o (some o.state) st cause none false
    let s2 := { s1 with wos.orders := s1.wos.orders.filter (fun q => q.handle != h) }
    let s3 := if o.state.counted then s2.recomputeHazard o.unit else s2
    if o.state == .sending then s3.chooseSending o.unit else s3

/-! ## Delivery and outcomes -/

/-- A SEGMENT was acknowledged (R67). -/
def State.segmentAcknowledged (h i : Nat) (s : State) : State :=
  let s1 := s.modOrder h (fun o => { o with segAcked := i + 1 })
  match s1.order? h with
  | none => s1
  | some o =>
    if i + 1 < o.segments then s1.placeFrame h 2
    else (s1.moveOrder h .delivered .acknowledged none false).chooseSending o.unit

/-- A STOP was acknowledged: the order keeps its state, whose own frame is then wanted (R66, R74). ORDER_STATE has that
state as the previous and the new one, and so the level of a BLOCKED order (R82, R166; log 10). -/
def State.stopAcknowledged (h : Nat) (s : State) : State :=
  match s.order? h with
  | none => s
  | some o =>
    let s1 := s.modOrder h (fun q => { q with stopOut := false })
    let s2 := if o.state == .stopped then s1 else s1.placeFrame h 2
    s2.raiseOrderState o (some o.state) o.state .acknowledged none true

/-- RECALL_UNDELIVERED; the phrase is "forced" (R79, R80). -/
def State.raiseRecallUndelivered (o : OrderRec) (forced : Bool) (s : State) : State :=
  s.raise .recallUndelivered (.order o.handle) (u32 o.number ++ u8 o.unit ++ yesNo forced)

/-- An ORDER_NOTICE was acknowledged (R72, R74, R80). -/
def State.noticeAcknowledged (h : Nat) (n : OrderNotice) (s : State) : State :=
  match n with
  | .proceed => s.moveOrder h .working .acknowledged none false
  | .stop => s.stopAcknowledged h
  | .recall => s.endOrder h .recalled .acknowledged

/-- A PROCEED or a CONTROL RECALL is undelivered (R72, R80). -/
def State.noticeUndelivered (h : Nat) (n : OrderNotice) (s : State) : State :=
  match n with
  | .proceed => s.moveOrder h .gated .undelivered none true
  | .recall =>
    match s.order? h with
    | none => s
    | some o => (s.endOrder h .recalled .undelivered).raiseRecallUndelivered o false
  | .stop => s

/-- A STOP or a SAFETY RECALL has gone unacknowledged (R74, R80). -/
def State.stopUndelivered (h : Nat) (n : OrderNotice) (s : State) : State :=
  match s.order? h with
  | none => s
  | some o => s.raise .stopUndelivered (.order h) (u32 o.number ++ u8 o.unit ++ u8 n.code)

/-! ## Crew progress -/

/-- What a crew report does, by the order's state (R69). -/
inductive CrewEffect where
  | taken (st : OrderState)
  | gate
  | again
  | ignored
  deriving DecidableEq, Repr

/-- The state a crew report names (R69). -/
def CrewState.order : CrewState → OrderState
  | .accepted => .accepted
  | .enRoute => .enRoute
  | .onSite => .onSite
  | .working => .working
  | .complete => .complete
  | .declined => .declined

/-- A report of an order that has its text and is not yet on site: forward only, linked orders meet the gate (R69). -/
def beforeSite (linked : Bool) (c : CrewState) : CrewEffect :=
  match c with
  | .onSite | .working => if linked then .gate else .taken c.order
  | .complete => if linked then .ignored else .taken .complete
  | _ => .taken c.order

/-- The table of R69. -/
def crewEffect (linked : Bool) (st : OrderState) (c : CrewState) : CrewEffect :=
  match st with
  | .delivered => beforeSite linked c
  | .accepted => if c == .accepted then .again else beforeSite linked c
  | .enRoute => if c == .accepted then .ignored else if c == .enRoute then .again else beforeSite linked c
  | .onSite =>
    match c with
    | .accepted | .enRoute => .ignored
    | .onSite => .again
    | .working | .complete | .declined => .taken c.order
  | .gated =>
    match c with
    | .onSite => .gate
    | .declined => .taken .declined
    | _ => .ignored
  | .proceeding | .stopped =>
    match c with
    | .onSite | .working => .again
    | _ => .ignored
  | .working =>
    match c with
    | .working => .again
    | .complete => .taken .complete
    | _ => .ignored
  | .blocked => if c == .declined then .taken .declined else .ignored
  | _ => .ignored

/-- A permit is ACTIVE. -/
def State.permitActive (p : Nat) (s : State) : Bool :=
  match s.permit? p with
  | none => false
  | some r => r.state == .active

def OrderRec.linkActive (o : OrderRec) (s : State) : Bool :=
  match o.permit with
  | none => false
  | some p => s.permitActive p

/-- The permit gate for an order whose crew is on site (R71). -/
def State.gate (o : OrderRec) (cause : OrderCause) (s : State) : State :=
  if o.linkActive s then s.moveOrder o.handle .proceeding cause none false
  else if o.state == .gated then s
  else s.moveOrder o.handle .gated cause none false

/-- ORDER_STATE_IGNORED: unit, reported state, and the order's state or a mark: 255 no order, 254 another unit's
(R69, R184). -/
def State.ignoreOrderItem (a h : Nat) (c : CrewState) (mark : Nat) (s : State) : State :=
  s.raise .orderStateIgnored (.order h) (u8 a ++ u8 c.code ++ u8 mark)

/-- An ORDER_STATE item from unit a (R69). -/
def State.crewReport (a h : Nat) (c : CrewState) (s : State) : State :=
  match s.order? h with
  | none => s.ignoreOrderItem a h c 255
  | some o =>
    if o.unit != a then s.ignoreOrderItem a h c 254
    else
      match crewEffect o.permit.isSome o.state c with
      | .taken .complete => s.endOrder h .complete .crewReport
      | .taken .declined => s.endOrder h .declined .crewReport
      | .taken st => s.moveOrder h st .crewReport none false
      | .gate => s.gate o .crewReport
      | .again => s
      | .ignored => s.ignoreOrderItem a h c o.state.code

/-! ## What the permit table tells -/

/-- The orders linked to a permit, in order of posting (R73). -/
def State.linkedTo (p : Nat) (s : State) : List OrderRec := s.wos.orders.filter (fun o => o.permit == some p)

/-- The orders linked to a permit that are PROCEEDING or WORKING (R76). -/
def State.linkedWorking (p : Nat) (s : State) : List OrderRec := (s.linkedTo p).filter (fun o => o.state.counted)

/-- The orders a permit that becomes ACTIVE moves on (R73). -/
def State.linkedHeld (p : Nat) (s : State) : List OrderRec :=
  (s.linkedTo p).filter (fun o => o.state == .gated || o.state == .stopped)

/-- Told that a permit is ACTIVE (R73). -/
def State.toldActive (p : Nat) (s : State) : State :=
  (s.linkedHeld p).foldl (fun s o => s.moveOrder o.handle .proceeding .permitChange (some p) false) s

/-- Told that a permit is SUSPENDED, in order of posting (R74; log 32). -/
def State.toldSuspended (p : Nat) (s : State) : State :=
  (s.linkedWorking p).foldl (fun s o => s.moveOrder o.handle .stopped .permitChange (some p) false) s

/-- The resume point of an order that is blocked (R75). -/
def OrderState.resumePoint : OrderState → OrderState
  | .sending => .posted
  | st => st

/-- The link becomes the former link (R75). -/
def State.unlink (h p : Nat) (s : State) : State := s.modOrder h (fun o => { o with permit := none, former := some p })

/-- One linked order of a closed permit (R75). -/
def State.blockOrder (p : Nat) (force : Bool) (h : Nat) (s : State) : State :=
  match s.order? h with
  | none => s
  | some o =>
    if o.state == .recalling then s.unlink h p
    else
      let s1 :=
        if force && o.state.counted then s.moveOrder h .stopped .permitChange (some p) false else s
      match s1.order? h with
      | none => s1
      | some o =>
        ((s1.unlink h p).modOrder h (fun q => { q with resume := some o.state.resumePoint })).moveOrder h .blocked
          .permitChange (some p) false

/-- Told that a permit is closed (R75). -/
def State.toldClosed (p : Nat) (force : Bool) (s : State) : State :=
  let linked := s.linkedTo p
  let s1 := linked.foldl (fun s o => s.blockOrder p force o.handle) s
  (linked.filter (fun o => o.state == .sending)).foldl (fun s o => s.chooseSending o.unit) s1

/-! ## Requests -/

/-- A unit is the holder or a party of a permit (R63, R78). -/
def PermitRec.names (p : PermitRec) (a : Nat) : Bool := p.members.contains a

/-- The starting state a code gives: 0 is absent (R63, R183). -/
def startState (code : Nat) : Option OrderState := if code = 0 then some .posted else ofCode startStates code

/-- The first field of POST ORDER outside its range, by number (R63 check 1). -/
def orderBadField (v : OrderArg) : Option Nat :=
  if v.unit < 1 ∨ 239 < v.unit then some 2
  else if (ofCode Priority.all v.priority).isNone then some 3
  else if (ofCode Hazard.all v.hazard).isNone then some 4
  else if v.text.length < 1 ∨ 240 < v.text.length then some 6
  else if (startState v.start).isNone then some 7
  else none

/-- The record of a posted order (R63, R64). -/
def State.newOrder (v : OrderArg) (s : State) : OrderRec :=
  let start := (startState v.start).getD .posted
  let permit := if v.permit = 0 then none else some v.permit
  { number := v.number, handle := s.wos.nextHandle, unit := v.unit
    priority := (ofCode Priority.all v.priority).getD .routine, hazard := (ofCode Hazard.all v.hazard).getD .general
    permit := permit, former := none, text := v.text
    segAcked := if start == .posted then 0 else (v.text.length + 39) / 40
    state := if start == .onSite && permit.isSome then .gated else start
    resume := none, stopOut := false, posted := s.now }

/-- The record is added and the next handle moves on (R62). -/
def State.addOrder (o : OrderRec) (s : State) : State :=
  let orders := s.wos.orders ++ [o]
  { s with wos := ⟨orders, Machine.nextId 65535 (orders.map OrderRec.handle) (orders.length + 1) s.wos.nextHandle⟩ }

/-- The refusal of check 5 of R63: the permit given must exist and name the unit; WRONG_STATE gives the permit's state
(log 31). -/
def State.badLink (v : OrderArg) (s : State) : Option (ReplyOutcome × List Byte) :=
  if v.permit = 0 then none
  else
    match s.permit? v.permit with
    | none => some (.notFound, u16 v.permit)
    | some p => if p.names v.unit then none else some (.wrongState, u8 p.state.code)

/-- POST ORDER (R63, R64). -/
def State.reqPostOrder (v : OrderArg) (s : State) : Answer :=
  match orderBadField v with
  | some n => s.outOfRange n
  | none =>
    if startState v.start != some .posted && s.runState == .operating then s.refuse .notLoading []
    else if (s.unit? v.unit).isNone then s.refuse .notFound (u8 v.unit)
    else if (s.orderNumbered? v.number).isSome then s.refuse .exists_ (u32 v.number)
    else
      match s.badLink v with
      | some (outcome, body) => s.refuse outcome body
      | none =>
        if Config.maxOrders ≤ s.wos.orders.length then s.refuse .full (u8 3)
        else
          let o := s.newOrder v
          let s1 := (s.addOrder o).raiseOrderState o none o.state .posting none false
          let s2 := if o.state == .posted then s1.chooseSending o.unit else s1
          s2.accept (u16 o.handle ++ u8 o.segments)

/-- The state of an order by handle, for a reply; the terminal state given once its record is freed. -/
def State.orderStateOr (h : Nat) (st : OrderState) (s : State) : List Byte :=
  u8 (((s.order? h).map (·.state)).getD st).code

/-- RECALL ORDER; a second recall of a unit that is not LOST is refused with the unit's contact state (R79; log 31). -/
def State.reqRecallOrder (number : Nat) (s : State) : Answer :=
  match s.orderNumbered? number with
  | none => s.refuse .notFound (u32 number)
  | some o =>
    match o.state with
    | .posted => (s.endOrder o.handle .recalled .recall).accept (u8 OrderState.recalled.code)
    | .recalling =>
      match s.unit? o.unit with
      | none => s.refuse .wrongState (u8 o.state.code)
      | some u =>
        if u.contact == .lost then
          ((s.endOrder o.handle .recalled .recall).raiseRecallUndelivered o true).accept (u8 OrderState.recalled.code)
        else s.refuse .wrongState (u8 u.contact.code)
    | st =>
      let s1 := s.moveOrder o.handle .recalling .recall none false
      let s2 := if st == .sending then s1.chooseSending o.unit else s1
      s2.accept (u8 OrderState.recalling.code)

/-- RELINK ORDER; WRONG_STATE gives the order's state in check 2 and the permit's in check 4, and the reply the state after
R65 has chosen (R78; logs 31, 33). -/
def State.reqRelinkOrder (number permit : Nat) (s : State) : Answer :=
  match s.orderNumbered? number with
  | none => s.refuse .notFound (u32 number)
  | some o =>
    if o.state != .blocked then s.refuse .wrongState (u8 o.state.code)
    else
      match s.permit? permit with
      | none => s.refuse .notFound (u16 permit)
      | some p =>
        if !p.names o.unit then s.refuse .wrongState (u8 p.state.code)
        else
          let s1 := s.modOrder o.handle (fun q => { q with permit := some permit, former := none, resume := none })
          let s2 : State :=
            match o.resume.getD .posted with
            | .posted => (s1.moveOrder o.handle .posted .relink none false).chooseSending o.unit
            | .delivered => s1.moveOrder o.handle .delivered .relink none false
            | .accepted => s1.moveOrder o.handle .accepted .relink none false
            | .enRoute => s1.moveOrder o.handle .enRoute .relink none false
            | _ =>
              if p.state == PermitState.active && s.runState == RunState.operating then
                s1.moveOrder o.handle .proceeding .relink none false
              else s1.moveOrder o.handle .gated .relink none false
          s2.accept (s2.orderStateOr o.handle .posted)

/-- Every field of an order record (R62, R83). -/
def OrderRec.bytes (o : OrderRec) : List Byte :=
  u32 o.number ++ u16 o.handle ++ u8 o.unit ++ u8 o.priority.code ++ u8 o.hazard.code ++ u16 (o.permit.getD 0)
    ++ u16 (o.former.getD 0) ++ textBytes o.text ++ u8 o.segments ++ u8 o.segAcked ++ u8 o.state.code
    ++ u8 ((o.resume.map (·.code)).getD 0) ++ yesNo o.stopOut ++ u48 o.posted

/-- An order in the list of a unit (R83). -/
def OrderRec.listBytes (o : OrderRec) : List Byte :=
  u32 o.number ++ u16 o.handle ++ u8 o.priority.code ++ u8 o.hazard.code ++ u8 o.state.code ++ u8 o.segAcked
    ++ u8 o.segments

/-- The kind of the frame a source record holds as an entry or a demand, by its code of R181, 0 for none
(R83; log 10). -/
def State.frameKindHeld (a : Nat) (src : Source) (s : State) : Nat :=
  match s.unit? a with
  | none => 0
  | some u =>
    match u.entry? src, u.demand? src with
    | some e, _ => e.content.frameKind
    | none, some d => d.content.frameKind
    | none, none => 0

/-- QUERY ORDER; an order that is not linked gives the permit's state as 0 (R83; log 10). -/
def State.reqQueryOrder (sel : Selector) (s : State) : Answer :=
  match sel with
  | .record n =>
    match s.orderNumbered? n with
    | none => s.refuse .notFound (u32 n)
    | some o =>
      s.accept (o.bytes
        ++ u8 (((o.permit.bind (fun p => s.permit? p)).map (fun p => p.state.code)).getD 0)
        ++ u8 (s.frameKindHeld o.unit (.order o.handle)) ++ s.frameStanding o.unit (.order o.handle))
  | .unit a =>
    match s.unit? a with
    | none => s.refuse .notFound (u8 a)
    | some _ => s.accept (Machine.listBytes OrderRec.listBytes (s.ordersOf a))

/-! ## SET CLASS INTERVALS -/

/-- The six values of LWM after clamping (R86). -/
def clampedIntervals (v : IntervalsArg) : Intervals :=
  { general := clamp 20 3600 v.general, elevated := clamp 20 3600 v.elevated, isolated := clamp 20 3600 v.isolated
    live := clamp 20 3600 v.live, prompt := clamp 30 600 v.prompt, cancel := clamp 10 120 v.cancel }

/-- Every value is within its range (R86). -/
def intervalsInRange (v : IntervalsArg) : Bool :=
  clampedIntervals v == ⟨v.general, v.elevated, v.isolated, v.live, v.prompt, v.cancel⟩ && clamp 30 600 v.ack == v.ack

/-- SET CLASS INTERVALS: the values are held, and every unit's hazard base is recomputed, by address (R86, R81,
R118; log 32). A worker that
falls DUE by the recomputation has the new prompt window (log 29). -/
def State.reqSetClassIntervals (v : IntervalsArg) (s : State) : Answer :=
  let c := clampedIntervals v
  let ack := clamp 30 600 v.ack
  let s1 := { s with lwm.intervals := c, als.ackWindow := ack }
  let s2 := (s1.units.map UnitRec.addr).foldl (fun s a => s.recomputeHazard a) s1
  (s2, if intervalsInRange v then .ok else .clamped,
    u16 c.general ++ u16 c.elevated ++ u16 c.isolated ++ u16 c.live ++ u16 c.prompt ++ u16 c.cancel ++ u16 ack)

end Sys2Proof.Machine
end

