-- ==== Sys2Proof/Machine/Pmt.lean ====
section
/-! DEFINITION. The Permit Table: tags, frames to the crews, the confirmation pair, suspension, closure, restoring,
and the requests on permits (R122, R124, R139 to R159). -/

namespace Sys2Proof.Machine

/-! ## Devices as permits see them -/

/-- The position that permits require of a kind of device (R122, R139). -/
def DeviceKind.held : DeviceKind → Position
  | .isolator => .opened
  | .ground => .closed

/-- The held position of a device whose tag list is not empty (R122). -/
def DeviceRec.heldPosition (d : DeviceRec) : Option Position := if d.tags.isEmpty then none else some d.kind.held

/-- The device is in violation: tagged, and not at its held position (R123). -/
def DeviceRec.inViolation (d : DeviceRec) : Bool := !d.tags.isEmpty && d.position != d.kind.held

/-- Tag a device with a permit; a number the list already holds leaves it as it was (R122). -/
def DeviceRec.tag (p : Nat) (t : Millis) (d : DeviceRec) : DeviceRec :=
  if d.tags.any (fun x => x.permit == p) then d else { d with tags := d.tags ++ [⟨p, t⟩] }

/-- Untag a device; the other entries keep their order (R122). -/
def DeviceRec.untag (p : Nat) (d : DeviceRec) : DeviceRec := { d with tags := d.tags.filter (fun x => x.permit != p) }

/-- Tag every point's device, in point order (R142, R157). -/
def State.tagPoints (p : Nat) (points : List Point) (s : State) : State :=
  points.foldl (fun s pt => s.modDevice pt.device (DeviceRec.tag p s.now)) s

/-- Untag every point's device, in point order (R144, R152). -/
def State.untagPoints (p : Nat) (points : List Point) (s : State) : State :=
  points.foldl (fun s pt => s.modDevice pt.device (DeviceRec.untag p)) s

/-! ## PERMIT_STATE and the frames -/

/-- PERMIT_STATE: the state before (255 for none), the state after (255 for FREED), both flags, the live serial, the
cause, and for a violation the device (R147; events of the Permit Table; log 10). -/
def State.raisePermitState (r : PermitRec) (before after : Nat) (cause : PermitCause) (device : List Byte)
    (s : State) : State :=
  s.raise .permitState (.permit r.number)
    (u8 before ++ u8 after ++ yesNo r.control ++ yesNo r.field ++ u8 (r.live.getD 0) ++ u8 cause.code ++ device)

/-- PERMIT_STATE for a permit whose record is held, as it now stands. -/
def State.notePermitState (p before : Nat) (cause : PermitCause) (device : List Byte) (s : State) : State :=
  match s.permit? p with
  | none => s
  | some r => s.raisePermitState r before r.state.code cause device

/-- The role of a unit on a permit (R139). -/
def PermitRec.roleOf (r : PermitRec) (a : Nat) : Role := if r.holder == a then .holder else .party

def PermitRec.setLatest (a : Nat) (v : Latest) (r : PermitRec) : PermitRec :=
  { r with recipients := update (fun x => x.unit == a) (fun x => { x with latest := v }) r.recipients }

/-- A frame to one recipient (R141). -/
def State.sendPermitTo (p : Nat) (latest : Latest) (c : Content) (cls a : Nat) (s : State) : State :=
  (s.modPermit p (PermitRec.setLatest a latest)).send a (.permit p) c cls false

/-- PERMIT_OFFER to the holder, then to each party; no demand is made in LOADING (R141). -/
def State.sendOffers (p : Nat) (s : State) : State :=
  match s.permit? p with
  | none => s
  | some r =>
    if s.runState == .loading then s
    else r.members.foldl (fun s a => s.sendPermitTo p .offer (.permitOffer p (r.roleOf a) r.points) 2 a) s

/-- PERMIT_NOTICE to the holder, then to each party; SUSPENDED is SAFETY; no demand is made in LOADING (R141). -/
def State.sendNotices (p : Nat) (latest : Latest) (n : PermitNotice) (s : State) : State :=
  match s.permit? p with
  | none => s
  | some r =>
    if s.runState == .loading then s
    else
      r.members.foldl (fun s a => s.sendPermitTo p latest (.permitNotice p n) (if n == .suspended then 3 else 2) a) s

/-! ## Activation and suspension -/

/-- The permit becomes ACTIVE: notices, the Work Order Store is told (not in LOADING), PERMIT_STATE (R146). -/
def State.activate (p : Nat) (cause : PermitCause) (s : State) : State :=
  match s.permit? p with
  | none => s
  | some r =>
    let s1 := s.modPermit p (fun q => { q with state := .active, changed := s.now })
    let s2 := s1.sendNotices p .active .active
    let s3 := if s.runState == .operating then s2.toldActive p else s2
    s3.notePermitState p r.state.code cause []

/-- Activation is tested: both flags yes, in OFFERED or SUSPENDED (R146). -/
def State.testActivation (p : Nat) (cause : PermitCause) (s : State) : State :=
  match s.permit? p with
  | none => s
  | some r =>
    if r.control && r.field && (r.state == .offered || r.state == .suspended) then s.activate p cause else s

/-- The device a suspension cause names (R147). -/
def SuspensionCause.deviceBytes : SuspensionCause → List Byte
  | .tagViolation d => u16 d
  | _ => []

def SuspensionCause.eventCause : SuspensionCause → PermitCause
  | .request => .request
  | .tagViolation _ => .tagViolation
  | .restore => .restore

/-- A suspension cause reaches a permit; its time of last change moves when its state or a flag does (R147, R139). -/
def State.suspendPermit (p : Nat) (cause : SuspensionCause) (s : State) : State :=
  match s.permit? p with
  | none => s
  | some r =>
    let s1 := s.modPermit p (fun q => { q with
      control := false, field := false, lastCause := some cause, state := .suspended
      changed := if r.state == .suspended && !r.control && !r.field then r.changed else s.now })
    let s2 := s1.sendNotices p .suspended .suspended
    let s3 := if r.state == .suspended then s2 else s2.toldSuspended p
    s3.notePermitState p r.state.code cause.eventCause cause.deviceBytes

/-- Told of a tag violation: each permit of the tag list, in list order, takes the cause (R149). -/
def State.toldViolation (d : Nat) (tags : List Tag) (s : State) : State :=
  tags.foldl (fun s t => s.suspendPermit t.permit (.tagViolation d)) s

/-! ## Radio outcomes (R151) -/

/-- One of the permit's frames to unit a was acknowledged. -/
def State.permitAcknowledged (p a : Nat) (s : State) : State :=
  s.modPermit p (PermitRec.setDelivery a .acknowledged)

/-- NOTICE_UNDELIVERED; the phrase is DROPPED (R151, R152). -/
def State.raiseNoticeUndelivered (p a : Nat) (n : PermitNotice) (serial : Nat) (dropped : Bool) (s : State) : State :=
  s.raise .noticeUndelivered (.permit p) (u8 a ++ u8 n.code ++ u8 serial ++ yesNo dropped)

/-- An offer or a CONTROL notice is undelivered. -/
def State.permitUndelivered (p a : Nat) (c : Content) (serial : Nat) (s : State) : State :=
  let s1 := s.modPermit p (PermitRec.setDelivery a .undelivered)
  match c with
  | .permitOffer _ role _ => s1.raise .offerUndelivered (.permit p) (u8 a ++ u8 role.code ++ u8 serial)
  | .permitNotice _ n => s1.raiseNoticeUndelivered p a n serial false
  | _ => s1

/-- A SUSPENDED notice has gone unacknowledged. -/
def State.permitUnacknowledged (p a : Nat) (c : Content) (serial : Nat) (s : State) : State :=
  match c with
  | .permitNotice _ n => s.raiseNoticeUndelivered p a n serial false
  | _ => s

/-! ## Items from the crews -/

/-- PERMIT_ITEM_IGNORED: unit, item kind, content, and the permit's state or 255 when no record holds the number
(R156). -/
def State.ignorePermitItem (a p kind : Nat) (content : List Byte) (s : State) : State :=
  s.raise .permitItemIgnored (.permit p)
    (u8 a ++ u8 kind ++ content ++ u8 (((s.permit? p).map (fun r => r.state.code)).getD 255))

/-- STALE_ACCEPT: serial and count of the item, the live serial, the state (R145). -/
def State.staleAccept (r : PermitRec) (count serial : Nat) (s : State) : State :=
  s.raise .staleAccept (.permit r.number) (u8 serial ++ u8 count ++ u8 (r.live.getD 0) ++ u8 r.state.code)

/-- A matching accept in OFFERED or SUSPENDED: field-confirmed, the holder's delivery ACKNOWLEDGED, the SUSPENDED
notice withdrawn, activation tested (R145). -/
def State.takeAccept (r : PermitRec) (s : State) : State :=
  let s1 := (s.modPermit r.number (fun q => { q with field := true, changed := s.now })).modPermit r.number
    (PermitRec.setDelivery r.holder .acknowledged)
  let s2 := if r.state == .suspended then s1.withdraw r.holder (.permit r.number) else s1
  s2.testActivation r.number .accept

/-- A PERMIT_ACCEPT item from unit a (R145). -/
def State.permitAccept (a p count serial : Nat) (s : State) : State :=
  match s.permit? p with
  | none => s.ignorePermitItem a p 6 (u16 p ++ u8 count ++ u8 serial)
  | some r =>
    if r.holder != a then s.ignorePermitItem a p 6 (u16 p ++ u8 count ++ u8 serial)
    else if r.live == some serial && count == r.points.length then
      match r.state with
      | .offered => s.takeAccept r
      | .suspended => if r.field then s else s.takeAccept r
      | .active | .surrenderPending => s
      | .draft => s.staleAccept r count serial
    else s.staleAccept r count serial

/-- SURRENDER_REFUSED with the reason ALARM, 1: the count, the oldest alarm's id and unit (R153). -/
def State.refuseForAlarm (p : Nat) (alarms : List AlarmRec) (first : AlarmRec) (s : State) : State :=
  s.raise .surrenderRefused (.permit p) (u8 1 ++ u8 alarms.length ++ u16 first.id ++ u8 first.unit)

/-- SURRENDER_REFUSED with the reason ORDER, 2: the count and the first order's handle (R153). -/
def State.refuseForOrder (p : Nat) (orders : List OrderRec) (first : OrderRec) (s : State) : State :=
  s.raise .surrenderRefused (.permit p) (u8 2 ++ u8 orders.length ++ u16 first.handle)

/-- The holder surrenders an ACTIVE or SUSPENDED permit (R153). -/
def State.surrender (r : PermitRec) (s : State) : State :=
  let alarms := s.alarmsOf r.members
  match alarms with
  | x :: _ => s.refuseForAlarm r.number alarms x
  | [] =>
    let orders := s.linkedWorking r.number
    match orders with
    | o :: _ => s.refuseForOrder r.number orders o
    | [] =>
      (s.modPermit r.number (fun q => { q with state := .surrenderPending, changed := s.now })).notePermitState
        r.number r.state.code .surrender []

/-- A PERMIT_SURRENDER item from unit a (R153). -/
def State.permitSurrender (a p : Nat) (s : State) : State :=
  match s.permit? p with
  | none => s.ignorePermitItem a p 7 (u16 p)
  | some r =>
    if r.holder != a then s.ignorePermitItem a p 7 (u16 p)
    else
      match r.state with
      | .draft | .offered => s.ignorePermitItem a p 7 (u16 p)
      | .surrenderPending => s
      | .active | .suspended => s.surrender r

/-! ## Closing -/

/-- Withdraw every entry and drop every demand of a permit (R144, R152). -/
def State.withdrawFrames (r : PermitRec) (s : State) : State :=
  r.members.foldl (fun s a => s.withdraw a (.permit r.number)) s

/-- The frames a permit still holds as entries or demands (R144). -/
def State.framesHeld (r : PermitRec) (s : State) : Nat :=
  (r.members.filter (fun a => s.holdsFrame a (.permit r.number))).length

/-- A unit's outbox has a free slot. -/
def State.slotFree (a : Nat) (s : State) : Bool :=
  match s.unit? a with
  | none => false
  | some u => u.hasSlot

/-- Place a CLOSED copy: it enters at once, else goes on the closing notice list, else is dropped with
NOTICE_UNDELIVERED, which gives its serial as 0 (R152; log 10). -/
def State.placeClosed (p a : Nat) (s : State) : State :=
  match s.unit? a with
  | none => s
  | some u =>
    if u.hasSlot then s.enterEntry u ⟨.closedCopy p, .permitNotice p .closed, 2, false, s.now⟩
    else if s.pmt.closing.length < Config.maxClosing then
      { s with pmt.closing := s.pmt.closing ++ [⟨p, a, s.now⟩] }
    else s.raiseNoticeUndelivered p a .closed 0 true

/-- Place the CLOSED copies, and count those that entered and those put on the list (R152, R154). -/
def State.placeAllClosed (p : Nat) : List Nat → State → State × Nat × Nat
  | [], s => (s, 0, 0)
  | a :: rest, s =>
    let (t, entered, listed) := (s.placeClosed p a).placeAllClosed p rest
    if s.slotFree a then (t, entered + 1, listed)
    else if s.pmt.closing.length < Config.maxClosing then (t, entered, listed + 1)
    else (t, entered, listed)

/-- Free a permit's record (R152). -/
def State.freePermit (p : Nat) (s : State) : State :=
  { s with pmt.permits := s.pmt.permits.filter (fun r => r.number != p) }

/-- Close a permit (R152); the counts of CLOSED notices entered and listed. -/
def State.closePermit (r : PermitRec) (force : Bool) (s : State) : State × Nat × Nat :=
  let s1 := (s.untagPoints r.number r.points).withdrawFrames r
  let (s2, entered, listed) := s1.placeAllClosed r.number r.members
  let s3 := s2.toldClosed r.number force
  let s4 :=
    match s3.permit? r.number with
    | none => s3
    | some q =>
      s3.raisePermitState q r.state.code closedCode (if force then .forceCancel else .surrender) []
  (s4.freePermit r.number, entered, listed)

/-! ## The checks of definition and issue -/

/-- A party outside its range, equal to the holder or given twice: its place, from 0 (R140). -/
def badParty (v : PermitArg) : Option Nat :=
  (List.range v.parties.length).find? (fun i =>
    let a := v.parties.getD i 0
    a < 1 || 239 < a || a == v.holder || (v.parties.take i).contains a)

/-- A point outside its ranges or whose device is given twice: its place, from 0 (R140). -/
def badPoint (v : PermitArg) : Option Nat :=
  (List.range v.points.length).find? (fun i =>
    let p := v.points.getD i ⟨0, 0⟩
    p.device < 1 || 65535 < p.device || (ofCode Position.definite p.position).isNone
      || ((v.points.take i).map (·.device)).contains p.device)

/-- The first field of check 1 outside its range: the field's number and, for a party or point, its place from 1
(R140). -/
def permitBadField (v : PermitArg) : Option (List Byte) :=
  if v.number < 1 ∨ 65535 < v.number then some (u8 1 ++ u8 0)
  else if v.holder < 1 ∨ 239 < v.holder then some (u8 2 ++ u8 0)
  else if 3 < v.parties.length then some (u8 3 ++ u8 0)
  else
    match badParty v with
    | some i => some (u8 3 ++ u8 (i + 1))
    | none =>
      if v.points.length < 1 ∨ 8 < v.points.length then some (u8 4 ++ u8 0)
      else (badPoint v).map (fun i => u8 4 ++ u8 (i + 1))

/-- The points of a definition whose position codes are in range. -/
def permitPoints (v : PermitArg) : List Point :=
  v.points.map (fun p => ⟨p.device, (ofCode Position.definite p.position).getD .opened⟩)

/-- The first unit or device a definition names that is not defined (R140 check 3). -/
def State.missingRecord (v : PermitArg) (s : State) : Option (List Byte) :=
  match (v.holder :: v.parties).find? (fun a => (s.unit? a).isNone) with
  | some a => some (u8 a)
  | none =>
    match v.points.find? (fun p => (s.device? p.device).isNone) with
    | some p => some (u16 p.device)
    | none => none

/-- The kind of a device, a ground for one that is not held. -/
def State.deviceKind (d : Nat) (s : State) : DeviceKind := ((s.device? d).map (·.kind)).getD .ground

/-- The reason of check 4 of R140: 1 HOLDER_FLEET, 2 POSITION with the point, 3 NO_ISOLATOR. -/
def State.permitReason (v : PermitArg) (s : State) : Option (List Byte) :=
  if (s.unit? v.holder).map (·.fleet) != some .home then some (u8 1)
  else
    let points := permitPoints v
    match (List.range points.length).find? (fun i =>
      (points[i]?).any (fun p => p.position != (s.deviceKind p.device).held)) with
    | some i => some (u8 2 ++ u8 (i + 1) ++ u16 (((points[i]?).map (·.device)).getD 0))
    | none => if points.any (fun p => s.deviceKind p.device == .isolator) then none else some (u8 3)

/-- The checks of R140 after the first, in order. -/
def State.definitionRefusal (v : PermitArg) (s : State) : Option (ReplyOutcome × List Byte) :=
  if (s.permit? v.number).isSome then some (.exists_, u16 v.number)
  else
    match s.missingRecord v with
    | some body => some (.notFound, body)
    | none =>
      match s.permitReason v with
      | some body => some (.wrongState, body)
      | none => if Config.maxPermits ≤ s.pmt.permits.length then some (.full, u8 7) else none

/-- The checks of R142 on one point, the i-th from 1: 1 POSITION, 2 PENDING_STEP with the step's id and state. -/
def State.pointRefusal (i : Nat) (p : Point) (s : State) : Option (ReplyOutcome × List Byte) :=
  match s.device? p.device with
  | none => some (.notFound, u16 p.device)
  | some d =>
    if d.position != p.position then some (.interlock, u8 i ++ u16 p.device ++ u8 1)
    else
      match d.pendingStep with
      | some x =>
        some (.wrongState, u8 i ++ u16 p.device ++ u8 2 ++ u8 x ++ u8 (((s.step? x).map (fun r => r.state.code)).getD 0))
      | none => if Config.maxTags ≤ d.tags.length then some (.full, u8 i ++ u16 p.device ++ u8 9) else none

/-- The first point that fails a check decides the outcome (R142). -/
def State.pointsRefusal (s : State) : Nat → List Point → Option (ReplyOutcome × List Byte)
  | _, [] => none
  | i, p :: rest =>
    match s.pointRefusal i p with
    | some r => some r
    | none => s.pointsRefusal (i + 1) rest

/-- A new record in DRAFT (R140). -/
def State.newPermit (v : PermitArg) (s : State) : PermitRec :=
  { number := v.number, holder := v.holder, parties := v.parties, points := permitPoints v, state := .draft
    control := false, field := false, live := none
    recipients := ⟨v.holder, .holder, .noFrame, .notSent⟩ :: v.parties.map (fun a => ⟨a, .party, .noFrame, .notSent⟩)
    lastCause := none, defined := s.now, changed := s.now }

def State.addPermit (r : PermitRec) (s : State) : State := { s with pmt.permits := s.pmt.permits ++ [r] }

/-! ## Requests -/

/-- DEFINE PERMIT (R140). -/
def State.reqDefinePermit (v : PermitArg) (s : State) : Answer :=
  match permitBadField v with
  | some body => s.refuse .outOfRange body
  | none =>
    match s.definitionRefusal v with
    | some (outcome, body) => s.refuse outcome body
    | none => ((s.addPermit (s.newPermit v)).notePermitState v.number 255 .define []).accept []

/-- The state and the live serial, 0 when absent (R142, R148, R183). -/
def State.permitReply (p : Nat) (s : State) : List Byte :=
  match s.permit? p with
  | none => []
  | some r => u8 r.state.code ++ u8 (r.live.getD 0)

/-- ISSUE PERMIT; a re-offer is answered as an issue is (R142, R143; log 33). -/
def State.reqIssuePermit (p : Nat) (s : State) : Answer :=
  match s.permit? p with
  | none => s.refuse .notFound (u16 p)
  | some r =>
    match r.state with
    | .draft =>
      match s.pointsRefusal 1 r.points with
      | some (outcome, body) => s.refuse outcome body
      | none =>
        let s1 := (s.tagPoints p r.points).modPermit p (fun q => { q with
          control := true, field := false, state := .offered, changed := s.now })
        let s2 := (s1.sendOffers p).notePermitState p r.state.code .issue []
        s2.accept (s2.permitReply p)
    | .offered =>
      let s1 := s.modPermit p (fun q => { q with field := false, changed := if q.field then s.now else q.changed })
      let s2 := (s1.sendOffers p).notePermitState p r.state.code .reissue []
      s2.accept (s2.permitReply p)
    | st => s.refuse .wrongState (u8 st.code)

/-- WITHDRAW PERMIT; the PERMIT_STATE of a freed DRAFT has the cause WITHDRAW, and WRONG_STATE gives the permit's state
(R144; logs 10, 31). -/
def State.reqWithdrawPermit (p : Nat) (s : State) : Answer :=
  match s.permit? p with
  | none => s.refuse .notFound (u16 p)
  | some r =>
    match r.state with
    | .offered =>
      let s1 := (s.untagPoints p r.points).modPermit p (fun q => { q with
        state := .draft, control := false, field := false, live := none, changed := s.now })
      ((s1.sendNotices p .withdrawn .withdrawn).notePermitState p r.state.code .withdraw []).accept []
    | .draft =>
      let s1 := (s.withdrawFrames r).toldClosed p false
      ((s1.raisePermitState r r.state.code 255 .withdraw []).freePermit p).accept (u8 (s.framesHeld r))
    | st => s.refuse .wrongState (u8 st.code)

/-- SUSPEND PERMIT; WRONG_STATE gives the permit's state (R148; log 31). -/
def State.reqSuspendPermit (p : Nat) (s : State) : Answer :=
  match s.permit? p with
  | none => s.refuse .notFound (u16 p)
  | some r =>
    match r.state with
    | .active | .suspended | .surrenderPending =>
      let s1 := s.suspendPermit p .request
      s1.accept (s1.permitReply p)
    | st => s.refuse .wrongState (u8 st.code)

/-- The first point whose device is not at its required position, from 1 (R150). -/
def State.misplacedPoint (s : State) : Nat → List Point → Option (List Byte)
  | _, [] => none
  | i, p :: rest =>
    if (s.device? p.device).map (·.position) == some p.position then s.misplacedPoint (i + 1) rest
    else some (u8 i ++ u16 p.device)

/-- RESUME PERMIT; WRONG_STATE gives the permit's state (R150; log 31). -/
def State.reqResumePermit (p : Nat) (s : State) : Answer :=
  match s.permit? p with
  | none => s.refuse .notFound (u16 p)
  | some r =>
    if r.state != .suspended then s.refuse .wrongState (u8 r.state.code)
    else
      match s.misplacedPoint 1 r.points with
      | some body => s.refuse .interlock body
      | none =>
        if r.control then s.accept []
        else
          let s1 := s.modPermit p (fun q => { q with control := true, changed := s.now })
          if r.field then (s1.testActivation p .resume).accept []
          else (s1.notePermitState p r.state.code .resume []).accept []

/-- CONFIRM SURRENDER (R154); the reason ALARM is 1, and another state than SURRENDER_PENDING is given by its code
(log 31). -/
def State.reqConfirmSurrender (p : Nat) (s : State) : Answer :=
  match s.permit? p with
  | none => s.refuse .notFound (u16 p)
  | some r =>
    if r.state != .surrenderPending then s.refuse .wrongState (u8 r.state.code)
    else
      match s.alarmsOf r.members with
      | x :: _ => s.refuse .wrongState (u8 1 ++ u16 x.id ++ u8 x.unit)
      | [] =>
        let (s1, entered, listed) := s.closePermit r false
        s1.accept (u8 entered ++ u8 listed)

/-- FORCE CANCEL (R155); the reasons are 1 HOLDER_NOT_LOST and 2 ALARM, a DRAFT is given by its code (log 31). -/
def State.reqForceCancel (p : Nat) (s : State) : Answer :=
  match s.permit? p with
  | none => s.refuse .notFound (u16 p)
  | some r =>
    if r.state == .draft then s.refuse .wrongState (u8 r.state.code)
    else if (s.unit? r.holder).map (·.contact) != some .lost then
      s.refuse .wrongState (u8 1 ++ u8 (((s.unit? r.holder).map (fun u => u.contact.code)).getD 0))
    else
      match s.alarmsOf r.members with
      | x :: _ => s.refuse .wrongState (u8 2 ++ u16 x.id ++ u8 x.unit)
      | [] =>
        let (s1, entered, listed) := s.closePermit r true
        s1.accept (u8 (s.linkedWorking p).length ++ u8 entered ++ u8 listed)

/-- The record RESTORE PERMIT creates (R157). -/
def State.restoredPermit (v : PermitArg) (st : PermitState) (s : State) : PermitRec :=
  { s.newPermit v with
    state := st, control := st == .active, field := st == .active
    lastCause := if st == .active then none else some .restore }

/-- RESTORE PERMIT, its checks in the order of log 17 (R157). -/
def State.reqRestorePermit (v : PermitArg) (state : Nat) (s : State) : Answer :=
  if s.runState == .operating then s.refuse .notLoading []
  else
    match permitBadField v, ofCode restoreStates state with
    | some body, _ => s.refuse .outOfRange body
    | none, none => s.refuse .outOfRange (u8 5 ++ u8 0)
    | none, some st =>
      match s.definitionRefusal v with
      | some (outcome, body) => s.refuse outcome body
      | none =>
        match s.pointsRefusal 1 (permitPoints v) with
        | some (outcome, body) => s.refuse outcome body
        | none =>
          (((s.addPermit (s.restoredPermit v st)).tagPoints v.number (permitPoints v)).notePermitState
            v.number 255 .restore []).accept []

/-! ## GO -/

/-- The frames a permit's state calls for at GO (R158). -/
def State.goFrames (r : PermitRec) (s : State) : State :=
  match r.state with
  | .offered => s.sendOffers r.number
  | .active => s.sendNotices r.number .active .active
  | .suspended => s.sendNotices r.number .suspended .suspended
  | _ => s

/-- Permits that send frames at GO (R175). -/
def PermitState.sendsAtGo : PermitState → Bool
  | .offered | .active | .suspended => true
  | _ => false

/-- The ACTIVE permits, in order of time defined. -/
def State.activePermits (s : State) : List PermitRec := s.pmt.permits.filter (fun r => r.state == .active)

/-- The orders GO moves to PROCEEDING (R177). -/
def State.goOrders (s : State) : Nat := sumOf (fun r => (s.linkedHeld r.number).length) s.activePermits

/-- GO treats the permits, then the orders they gate: the permit frames stand before the PROCEEDs (R177). -/
def State.goPermits (s : State) : State :=
  let s1 := s.pmt.permits.foldl (fun s r => s.goFrames r) s
  s1.activePermits.foldl (fun s r => s.toldActive r.number) s1

/-! ## QUERY PERMIT -/

/-- The last suspension cause and its device, both 0 when absent (R139, R159; log 10). -/
def SuspensionCause.bytes : Option SuspensionCause → List Byte
  | none => u8 0 ++ u16 0
  | some .request => u8 1 ++ u16 0
  | some (.tagViolation d) => u8 2 ++ u16 d
  | some .restore => u8 3 ++ u16 0

/-- A recipient, with where its entry stands (R159). -/
def State.recipientBytes (p : Nat) (s : State) (r : Recipient) : List Byte :=
  u8 r.unit ++ u8 r.role.code ++ u8 r.latest.code ++ u8 r.delivery.code ++ s.frameStanding r.unit (.permit p)

/-- The present position of a point's device and the number of its tags (R159). -/
def State.pointBytes (s : State) (p : Point) : List Byte :=
  u8 (((s.device? p.device).map (fun d => d.position.code)).getD 0)
    ++ u8 (((s.device? p.device).map (fun d => d.tags.length)).getD 0)

/-- Every field of a permit record in the order of R139, then each point's device as a counted list, then the linked
orders (R159; log 10). -/
def State.permitBytes (r : PermitRec) (s : State) : List Byte :=
  u16 r.number ++ u8 r.holder ++ listBytes u8 r.parties ++ listBytes Point.bytes r.points ++ u8 r.state.code
    ++ yesNo r.control ++ yesNo r.field ++ u8 (r.live.getD 0) ++ listBytes (s.recipientBytes r.number) r.recipients
    ++ SuspensionCause.bytes r.lastCause ++ u48 r.defined ++ u48 r.changed
    ++ listBytes s.pointBytes r.points ++ u8 (s.linkedTo r.number).length ++ u8 (s.linkedWorking r.number).length

def PermitRec.listBytes (r : PermitRec) : List Byte :=
  u16 r.number ++ u8 r.holder ++ u8 r.state.code ++ yesNo r.control ++ yesNo r.field

def ClosingItem.bytes (i : ClosingItem) : List Byte := u16 i.permit ++ u8 i.unit ++ u48 i.time

/-- QUERY PERMIT (R159). -/
def State.reqQueryPermit (p : Nat) (s : State) : Answer :=
  if p = 0 then
    s.accept (listBytes PermitRec.listBytes s.pmt.permits ++ listBytes ClosingItem.bytes s.pmt.closing)
  else
    match s.permit? p with
    | none => s.refuse .notFound (u16 p)
    | some r => s.accept (s.permitBytes r)

end Sys2Proof.Machine
end

