-- ==== Sys2Proof/Machine/Swr.lean ====
section
/-! DEFINITION. The Switching Register: recording positions, steps and their read-backs, and the requests on devices
and steps (R121, R123, R126 to R138). -/

namespace Sys2Proof.Machine

/-! ## Recording a position -/

/-- Record a position with its source and time (R123). -/
def State.recordPosition (d : Nat) (pos : Position) (src : PositionSource) (t : Millis) (s : State) : State :=
  s.modDevice d (fun r => { r with position := pos, source := src, posTime := t })

/-- The device is in violation as it stands (R123). -/
def State.inViolation (d : Nat) (s : State) : Bool :=
  match s.device? d with
  | none => false
  | some r => r.inViolation

/-- A recording that leaves the device in violation is a tag violation: TAG_VIOLATION, then the permit table is told;
the step id is given for the sources STEP and ABORT (R123). -/
def State.checkViolation (d : Nat) (step : Option Nat) (s : State) : State :=
  match s.device? d with
  | none => s
  | some r =>
    if r.inViolation then
      (s.raise .tagViolation (.device d)
        (u8 r.position.code ++ u8 r.kind.held.code ++ u8 r.source.code
          ++ (match step with
              | some x => u8 x
              | none => [])
          ++ listBytes (fun t => u16 t.permit) r.tags)).toldViolation d r.tags
    else s

/-! ## Steps -/

/-- The position an operation gives (R125). -/
def Operation.gives : Operation → Position
  | .open_ => .opened
  | .close => .closed

/-- The demand for a step's STEP (R127). -/
def State.sendStep (x : StepRec) (s : State) : State :=
  s.send x.unit (.step x.id) (.step x.id x.device x.operation) 2 false

/-- A step becomes the head of its list: SENT, read-backs left R, a STEP demanded (R127). -/
def State.becomeHead (id : Nat) (s : State) : State :=
  match s.step? id with
  | none => s
  | some x =>
    (s.modStep id (fun r => { r with
      state := .sent, readbacks := some s.psc.timing.r, awaited := false })).sendStep x

/-- A step is the head of its unit's list (R125). -/
def State.isHead (x : StepRec) (s : State) : Bool := ((s.stepsOf x.unit).head?).any (fun h => h.id == x.id)

/-- A step's record is freed, and the step behind a head becomes the head (R128 steps 4 and 5). -/
def State.freeStep (x : StepRec) (s : State) : State :=
  let head := s.isHead x
  let s1 := s.modDevice x.device (fun d => { d with pendingStep := none })
  let s2 := { s1 with swr.steps := s1.swr.steps.filter (fun r => r.id != x.id) }
  if head then
    match (s2.stepsOf x.unit).head? with
    | none => s2
    | some n => s2.becomeHead n.id
  else s2

/-- A step ends ABORTED (R128). -/
def State.abortStep (x : StepRec) (cause : AbortCause) (s : State) : State :=
  let s1 := (s.withdraw x.unit (.step x.id)).raise .stepAborted (.step x.id)
    (u16 x.device ++ u8 x.operation.code ++ u8 x.unit ++ u8 x.state.code ++ u8 cause.code)
  let s2 :=
    if x.state == .confirmed then
      (s1.recordPosition x.device .unknown .abort s.now).checkViolation x.device (some x.id)
    else s1
  s2.freeStep x

/-- A STEP was acknowledged: its read-back is awaited; an acknowledged STEP_GO changes nothing (R129, R132). -/
def State.stepAcknowledged (id : Nat) (c : Content) (s : State) : State :=
  match c with
  | .step .. => s.modStep id (fun r => { r with awaited := true })
  | _ => s

/-- A STEP or STEP_GO is undelivered (R134). -/
def State.stepUndelivered (id : Nat) (s : State) : State :=
  match s.step? id with
  | none => s
  | some x => s.abortStep x .undelivered

/-! ## Items from the switchman -/

/-- STEP_ITEM_IGNORED: unit, item kind, content, and the step's state or a mark: 255 no step, 254 another unit's
(R135, R184). -/
def State.ignoreStepItem (a id kind : Nat) (content : List Byte) (mark : Nat) (s : State) : State :=
  s.raise .stepItemIgnored (.step id) (u8 a ++ u8 kind ++ content ++ u8 mark)

/-- A compared read-back differs (R130). -/
def State.mismatch (x : StepRec) (device : Nat) (op : Operation) (s : State) : State :=
  let left := x.readbacks.getD 0
  let s1 := s.raise .readbackMismatch (.step x.id)
    (u16 device ++ u8 op.code ++ u16 x.device ++ u8 x.operation.code ++ u8 left)
  if 1 < left then (s1.modStep x.id (fun r => { r with readbacks := some (left - 1) })).sendStep x
  else s1.abortStep x .readback

/-- The name of a device, for a detail. -/
def State.deviceName (d : Nat) (s : State) : List Byte := ((s.device? d).map (·.name)).getD []

/-- A read-back is compared with its step (R129). -/
def State.compareReadback (x : StepRec) (device : Nat) (op : Operation) (s : State) : State :=
  let s1 := s.modStep x.id (fun r => { r with awaited := false })
  if device == x.device && op == x.operation then
    (s1.modStep x.id (fun r => { r with state := .readBack })).raise .stepReadback (.step x.id)
      (u16 x.device ++ textBytes (s.deviceName x.device) ++ u8 x.operation.code ++ u8 x.unit)
  else s1.mismatch x device op

/-- A READBACK item from unit a (R129, R135). -/
def State.readback (a id device : Nat) (op : Operation) (s : State) : State :=
  let content := u8 id ++ u16 device ++ u8 op.code
  match s.step? id with
  | none => s.ignoreStepItem a id 4 content 255
  | some x =>
    if x.unit != a then s.ignoreStepItem a id 4 content 254
    else if x.state == .sent then
      if x.awaited then s.compareReadback x device op else s
    else s.ignoreStepItem a id 4 content x.state.code

/-- A STEP_DONE for a CONFIRMED step of its switchman (R132). -/
def State.takeDone (x : StepRec) (pos : Position) (t : Millis) (s : State) : State :=
  let s1 := s.withdraw x.unit (.step x.id)
  let before := ((s1.device? x.device).map (fun d => d.position.code)).getD 0
  let s2 := (s1.recordPosition x.device pos .step t).raise .stepDone (.step x.id)
    (u16 x.device ++ u8 x.operation.code ++ u8 before ++ u8 pos.code ++ yesNo (pos != x.operation.gives))
  (s2.checkViolation x.device (some x.id)).freeStep x

/-- A STEP_DONE item from unit a (R132, R135). -/
def State.stepDone (a id : Nat) (pos : Position) (t : Millis) (s : State) : State :=
  let content := u8 id ++ u8 pos.code
  match s.step? id with
  | none => s.ignoreStepItem a id 5 content 255
  | some x =>
    if x.unit != a then s.ignoreStepItem a id 5 content 254
    else if x.state == .confirmed then s.takeDone x pos t
    else s.ignoreStepItem a id 5 content x.state.code

/-! ## Requests on devices -/

/-- A name or call sign: each byte from 32 to 126 (R21, R120). -/
def printable (t : List Byte) : Bool := t.all (fun b => decide (32 ≤ b.toNat) && decide (b.toNat ≤ 126))

/-- Every field of a device record (R120). -/
def DeviceRec.bytes (d : DeviceRec) : List Byte :=
  u16 d.number ++ u8 d.kind.code ++ textBytes d.name ++ u8 d.position.code ++ u8 d.source.code ++ u48 d.posTime
    ++ listBytes (fun t => u16 t.permit ++ u48 t.time) d.tags ++ u8 (d.pendingStep.getD 0)

def DeviceRec.standsAfter (x y : DeviceRec) : Bool := decide (x.number < y.number)

/-- DEFINE DEVICE (R121). -/
def State.reqDefineDevice (number kind : Nat) (name : List Byte) (position : Nat) (s : State) : Answer :=
  if number < 1 || 65535 < number then s.outOfRange 1
  else
    match ofCode DeviceKind.all kind with
    | none => s.outOfRange 2
    | some k =>
      if 12 < name.length || !printable name then s.outOfRange 3
      else
        match ofCode Position.all position with
        | none => s.outOfRange 4
        | some pos =>
          if (s.device? number).isSome then s.refuse .exists_ (u16 number)
          else if Config.maxDevices ≤ s.swr.devices.length then s.refuse .full (u8 5)
          else
            let d : DeviceRec := ⟨number, k, name, pos, .defined, s.now, [], none⟩
            { s with swr.devices := insertBefore d.standsAfter d s.swr.devices }.accept d.bytes

/-- Abort the device's pending step if it is SENT or READ_BACK (R136); a CONFIRMED step refuses the request. -/
def State.abortForPosition (d : DeviceRec) (s : State) : State × Nat :=
  match d.pendingStep.bind s.step? with
  | none => (s, 0)
  | some x => if x.state == .sent || x.state == .readBack then (s.abortStep x .positionSet, x.id) else (s, 0)

/-- SET POSITION (R136). -/
def State.reqSetPosition (device position : Nat) (s : State) : Answer :=
  if device < 1 || 65535 < device then s.outOfRange 1
  else
    match ofCode Position.all position with
    | none => s.outOfRange 2
    | some pos =>
      match s.device? device with
      | none => s.refuse .notFound (u16 device)
      | some d =>
        match (d.pendingStep.bind s.step?).filter (fun x => x.state == .confirmed) with
        | some x => s.refuse .wrongState (u8 x.id ++ u8 x.unit)
        | none =>
          let (s1, aborted) := s.abortForPosition d
          let s2 := s1.recordPosition device pos .set s.now
          let s3 := s2.checkViolation device none
          s3.accept (u8 d.position.code ++ u8 pos.code ++ u8 aborted ++ yesNo (s2.inViolation device))

/-- QUERY DEVICE; no held position and no pending step are 0 (R137; log 10). -/
def State.reqQueryDevice (number : Nat) (s : State) : Answer :=
  if number = 0 then
    s.accept (listBytes (fun d : DeviceRec =>
      u16 d.number ++ u8 d.kind.code ++ u8 d.position.code ++ u8 d.tags.length ++ yesNo d.inViolation
        ++ u8 (d.pendingStep.getD 0)) s.swr.devices)
  else
    match s.device? number with
    | none => s.refuse .notFound (u16 number)
    | some d =>
      s.accept (d.bytes ++ u8 ((d.heldPosition.map (·.code)).getD 0) ++ yesNo d.inViolation
        ++ u8 (((d.pendingStep.bind s.step?).map (fun x => x.state.code)).getD 0))

/-! ## Requests on steps -/

/-- The first permit of a contrary tag: the device is tagged and the operation does not give its held position
(R126, R131). -/
def DeviceRec.interlock (op : Operation) (d : DeviceRec) : Option Nat :=
  match d.tags with
  | [] => none
  | t :: _ => if op.gives == d.kind.held then none else some t.permit

/-- QUEUE STEP; the reason SIGNED_OFF is the contact state's code (R126; log 31). -/
def State.reqQueueStep (device operation a : Nat) (s : State) : Answer :=
  if s.runState == .loading then s.refuse .notOperating []
  else if device < 1 || 65535 < device then s.outOfRange 1
  else
    match ofCode Operation.all operation with
    | none => s.outOfRange 2
    | some op =>
      if a < 1 || 239 < a then s.outOfRange 3
      else
        match s.device? device, s.unit? a with
        | none, _ => s.refuse .notFound (u16 device)
        | some _, none => s.refuse .notFound (u8 a)
        | some d, some u =>
          match d.pendingStep with
          | some x => s.refuse .wrongState (u8 x ++ u8 (((s.step? x).map (fun r => r.state.code)).getD 0))
          | none =>
            if !u.signedOn then s.refuse .wrongState (u8 u.contact.code)
            else
              match d.interlock op with
              | some p => s.refuse .interlock (u16 p)
              | none =>
                if Config.maxSteps ≤ s.swr.steps.length then s.refuse .full (u8 6)
                else
                  let x : StepRec := ⟨s.swr.nextStep, device, op, a, .queued, s.now, none, false⟩
                  let steps := s.swr.steps ++ [x]
                  let next := nextId 255 (steps.map StepRec.id) (steps.length + 1) s.swr.nextStep
                  let s1 := { s with swr.steps := steps, swr.nextStep := next }.modDevice device
                    (fun r => { r with pendingStep := some x.id })
                  let s2 := if s1.isHead x then s1.becomeHead x.id else s1
                  s2.accept (u8 x.id ++ u8 (if s1.isHead x then StepState.sent.code else StepState.queued.code)
                    ++ u8 (s1.stepsOf a).length)

/-- CONFIRM STEP (R131). -/
def State.reqConfirmStep (id : Nat) (s : State) : Answer :=
  if s.runState == .loading then s.refuse .notOperating []
  else if id < 1 || 255 < id then s.outOfRange 1
  else
    match s.step? id with
    | none => s.refuse .notFound (u8 id)
    | some x =>
      if x.state != .readBack then s.refuse .wrongState (u8 x.state.code)
      else
        match (s.device? x.device).bind (DeviceRec.interlock x.operation) with
        | some p => s.refuse .interlock (u16 p)
        | none =>
          ((s.modStep id (fun r => { r with state := .confirmed })).send x.unit (.step id) (.stepGo id) 2 false).accept
            (u8 StepState.confirmed.code)

/-- ABORT STEP (R133). -/
def State.reqAbortStep (id : Nat) (s : State) : Answer :=
  if id < 1 || 255 < id then s.outOfRange 1
  else
    match s.step? id with
    | none => s.refuse .notFound (u8 id)
    | some x =>
      let s1 := s.abortStep x .request
      s1.accept (u8 x.state.code ++ u8 (((s1.device? x.device).map (fun d => d.position.code)).getD 0)
        ++ yesNo (x.state == .confirmed && s1.inViolation x.device))

/-- A step with its device's position and where its frame stands; the kind of the frame stands before its three bytes
(R125, R138; log 10). -/
def State.stepBytes (s : State) (x : StepRec) : List Byte :=
  u8 x.id ++ u16 x.device ++ u8 x.operation.code ++ u8 x.unit ++ u8 x.state.code ++ u48 x.queued
    ++ u8 (x.readbacks.getD 255) ++ yesNo x.awaited
    ++ u8 (((s.device? x.device).map (fun d => d.position.code)).getD 0)
    ++ u8 (s.frameKindHeld x.unit (.step x.id)) ++ s.frameStanding x.unit (.step x.id)

/-- QUERY STEPS; the steps of every unit are one counted list (R138; log 10). -/
def State.reqQuerySteps (a : Nat) (s : State) : Answer :=
  if a = 0 then
    s.accept (listBytes s.stepBytes ((s.units.map UnitRec.addr).flatMap s.stepsOf) ++ u8 s.swr.nextStep)
  else
    match s.unit? a with
    | none => s.refuse .notFound (u8 a)
    | some _ => s.accept (listBytes s.stepBytes (s.stepsOf a))

/-! ## Sign-off of a switchman (R134) -/

/-- A SENT step whose read-back is awaited has had its STEP removed: it asks again at the next sign-on. -/
def State.askAgain (x : StepRec) (s : State) : State :=
  if x.state == .sent && x.awaited then (s.modStep x.id (fun r => { r with awaited := false })).sendStep x else s

/-- The steps of a unit that signs off. -/
def State.stepsSignOff (a : Nat) (s : State) : State := (s.stepsOf a).foldl (fun s x => s.askAgain x) s

end Sys2Proof.Machine
end

