-- ==== Sys2Proof/Machine/Utb.lean ====
section
/-! DEFINITION. The Unit Table: contact, rate class tracking, sign-on and sign-off, status keys, and the requests on
units (R21 to R37). -/

namespace Sys2Proof.Machine

/-! ## Contact -/

/-- The bit rate of a class, all ones when no rate table is set (R37, R183). -/
def Ale.rateOf (a : Ale) (cls : Nat) : Nat := ((a.rateEntry? cls).map (·.rate)).getD 65535

/-- The event for a change of contact (R27). -/
def State.contactEvent (u : UnitRec) (cls : Nat) (s : State) : State :=
  if !u.heard then s.raise .unitHeard (.unit u.addr) (u8 cls)
  else if u.isLost then s.raise .unitRegained (.unit u.addr) (u8 cls ++ optTime u.lastHeard)
  else s

/-- The recorded class becomes the burst class; UNIT_RATE_CHANGE gives the old class and its rate, then the new class and
its rate (R31; log 10). -/
def State.trackClass (u : UnitRec) (cls : Nat) (s : State) : State :=
  if u.cls = cls then s
  else
    ((s.modUnit u.addr (fun r => { r with cls := cls })).raise .unitRateChange (.unit u.addr)
      (u8 u.cls ++ u16 (s.ale.rateOf u.cls) ++ u8 cls ++ u16 (s.ale.rateOf cls))).recomputeEstimate

/-- A valid frame from a unit: a signed-on unit is IN_CONTACT with a full budget, its class tracked; a SIGNED_OFF unit's
last heard time is set and nothing else (R27, R31). -/
def State.heardFrame (a cls : Nat) (t : Millis) (s : State) : State :=
  match s.unit? a with
  | none => s
  | some u =>
    if u.signedOn then
      let s1 := s.modUnit a (fun r => { r with
        contact := .inContact, budget := s.psc.timing.n, lastHeard := some t, heard := true })
      let s2 := s1.contactEvent u cls
      let s3 := if u.isLost then s2.recomputeEstimate else s2
      s3.trackClass u cls
    else s.modUnit a (fun r => { r with lastHeard := some t })

/-- A unit's budget has run out: LOST, UNIT_LOST, and the scheduler is told (R28, R29). -/
def State.loseUnit (u : UnitRec) (s : State) : State :=
  ((s.modUnit u.addr (fun r => { r with contact := .lost, budget := 0 })).raise .unitLost (.unit u.addr)
    (optTime u.lastHeard)).recomputeEstimate

/-- A poll or probe window of a unit has ended without a REPLY (R28). -/
def State.silentWindow (a : Nat) (s : State) : State :=
  match s.unit? a with
  | none => s
  | some u =>
    match u.contact with
    | .inContact =>
      if u.budget - 1 = 0 then s.loseUnit u
      else
        (s.modUnit a (fun r => { r with contact := .late, budget := u.budget - 1 })).raise .unitLate (.unit a)
          (u8 (u.budget - 1))
    | .late | .neverHeard =>
      if u.budget - 1 = 0 then s.loseUnit u else s.modUnit a (fun r => { r with budget := u.budget - 1 })
    | .lost | .signedOff => s

/-- The miss budget under a new limit (R30). -/
def UnitRec.adjustBudget (n : Nat) (u : UnitRec) : UnitRec :=
  match u.contact with
  | .inContact => { u with budget := n }
  | .neverHeard | .late => { u with budget := min n u.budget }
  | .lost | .signedOff => u

/-- Units whose class falls outside a table of n entries take the last entry (R12). -/
def UnitRec.clampClass (n : Nat) (u : UnitRec) : UnitRec := { u with cls := if n ≤ u.cls then n - 1 else u.cls }

/-! ## Signing on and off -/

/-- The reason a sign-off would be refused: 1 PERMIT, 2 ORDER, 3 ALARM (R25). -/
def State.signOffReason (a : Nat) (s : State) : Option Nat :=
  if !(s.permitsOf a).isEmpty then some 1
  else if (s.ordersOf a).any (fun o => o.state != .posted) then some 2
  else if !(s.alarmsOf [a]).isEmpty then some 3
  else none

/-- The unit is not polled again in the current cycle (R42). -/
def Psc.voidEntries (a : Nat) (p : Psc) : Psc :=
  { p with pollList := update (fun e => e.unit == a) (fun e => { e with void := true }) p.pollList }

/-- The current cycle's windows for a unit that left the roster or signed off count for nothing (R23, R26, R42). -/
def Psc.voidUnit (a : Nat) (p : Psc) : Psc :=
  { p.voidEntries a with window := p.window.map (fun w => if w.unit == a then { w with void := true } else w) }

/-- An entry whose owner still wants it sent waits for the next sign-on (R26, R134). -/
def Entry.outlivesSignOff (e : Entry) : Bool :=
  match e.source with
  | .step _ | .order _ => true
  | .worker _ | .permit _ | .closedCopy _ => false

/-- The outbox empties at a sign-off (R26 step 3). -/
def UnitRec.purge (t : Millis) (u : UnitRec) : UnitRec :=
  { u with waiting := u.waiting ++ (u.outbox.filter Entry.outlivesSignOff).map
             (fun e => ⟨e.source, e.content, e.cls, e.emergency, t⟩)
           outbox := [] }

/-- PMT drops a unit's closing notice items (R152). -/
def State.dropClosing (a : Nat) (s : State) : State :=
  { s with pmt.closing := s.pmt.closing.filter (fun i => i.unit != a) }

/-- The effects of a sign-off, its workers by slot (R26; log 32); the last status key is 0 while the unit is SIGNED_OFF
(R33; log 29). -/
def State.signOff (a : Nat) (s : State) : State :=
  let s1 := ((s.modUnit a (fun u => { u with contact := .signedOff, budget := 0, lastKey := 0 })).modPsc
    (Psc.voidUnit a)).recomputeEstimate
  let s2 := ((s1.workersOf a).map WorkerRec.id).foldl (fun s i => s.enterInactive i) s1
  ((s2.modUnit a (UnitRec.purge s2.now)).stepsSignOff a).dropClosing a

/-! ## Status keys -/

/-- STATUS_KEY: code, action, and whether the action took effect (R33). -/
def State.raiseKey (a : Nat) (k : StatusKey) (effect : Bool) (s : State) : State :=
  if k.report then s.raise .statusKey (.unit a) (u8 k.code ++ u8 k.action.code ++ yesNo effect) else s

/-- A SIGN_OFF key on a change of code (R36). -/
def State.keySignOff (a : Nat) (k : StatusKey) (s : State) : State :=
  match s.signOffReason a with
  | some r => (s.raise .signOffRefused (.unit a) (u8 r)).raiseKey a k false
  | none => ((s.signOff a).raise .unitSignedOff (.unit a) []).raiseKey a k true

/-- An action other than CREW_CHECKIN, on a change of code (R35, R36). -/
def State.keyAction (u : UnitRec) (k : StatusKey) (s : State) : State :=
  match k.action with
  | .noAction | .crewCheckin => s.raiseKey u.addr k false
  | .pause => (s.modUnit u.addr (fun r => { r with paused := true })).raiseKey u.addr k (!u.paused)
  | .resume => (s.modUnit u.addr (fun r => { r with paused := false })).raiseKey u.addr k u.paused
  | .signOff => s.keySignOff u.addr k

/-- The status key of a REPLY (R33). -/
def State.statusKey (a code : Nat) (t : Millis) (s : State) : State :=
  match s.unit? a with
  | none => s
  | some u =>
    let s1 := s.modUnit a (fun r => { r with lastKey := code })
    if code = 0 then s1
    else
      match s.keys.find? (fun k => k.code == code) with
      | none => if code = u.lastKey then s1 else s1.raise .unknownStatus (.unit a) (u8 code)
      | some k =>
        if k.action == .crewCheckin then
          if code = u.lastKey then s1.crewCheckIn a t else (s1.crewCheckIn a t).raiseKey a k true
        else if code = u.lastKey then s1
        else s1.keyAction u k

/-! ## Requests -/

def UnitRec.standsAfter (x y : UnitRec) : Bool := decide (x.addr < y.addr)

/-- The first field of DEFINE UNIT outside its range; the sign states are 1 ON and 2 OFF (R22). -/
def State.unitBadField (v : UnitArg) (s : State) : Option Nat :=
  if v.addr < 1 ∨ 239 < v.addr then some 1
  else if (ofCode Fleet.all v.fleet).isNone then some 2
  else if v.callSign.length < 1 ∨ 8 < v.callSign.length ∨ !printable v.callSign then some 3
  else if v.sign < 1 ∨ 2 < v.sign then some 5
  else if 5 < v.cls ∨ (!s.ale.rateTable.isEmpty ∧ s.ale.rateTable.length ≤ v.cls) then some 4
  else none

/-- The record DEFINE UNIT creates (R22). -/
def State.newUnit (v : UnitArg) (s : State) : UnitRec :=
  { addr := v.addr, fleet := (ofCode Fleet.all v.fleet).getD .home, callSign := v.callSign, cls := v.cls
    contact := if v.sign = 1 then .neverHeard else .signedOff
    budget := if v.sign = 1 then s.psc.timing.n else 0
    heard := false, lastKey := 0, paused := false, lastHeard := none, hazard := s.lwm.intervals.general
    nextSerial := 0, outbox := [], waiting := [] }

/-- DEFINE UNIT (R22). -/
def State.reqDefineUnit (v : UnitArg) (s : State) : Answer :=
  match s.unitBadField v with
  | some n => s.outOfRange n
  | none =>
    if (s.unit? v.addr).isSome then s.refuse .exists_ (u8 v.addr)
    else if Config.maxUnits ≤ s.units.length then s.refuse .full (u8 1)
    else
      let u := s.newUnit v
      ({ s with units := insertBefore u.standsAfter u s.units }.recomputeEstimate).accept []

/-- The first kind of reference to a unit: 1 worker, 2 order, 3 step, 4 permit (R23). -/
def State.reference (a : Nat) (s : State) : Option Nat :=
  if !(s.workersOf a).isEmpty then some 1
  else if !(s.ordersOf a).isEmpty then some 2
  else if !(s.stepsOf a).isEmpty then some 3
  else if !(s.permitsOf a).isEmpty then some 4
  else none

/-- A removed unit is of no cycle: its windows are void, and it has had none (R23, R42). -/
def Psc.removeUnit (a : Nat) (p : Psc) : Psc :=
  { p.voidUnit a with polled := p.polled.filter (fun b => b != a), matched := p.matched.filter (fun b => b != a) }

/-- REMOVE UNIT (R23). -/
def State.reqRemoveUnit (a : Nat) (s : State) : Answer :=
  match s.unit? a with
  | none => s.refuse .notFound (u8 a)
  | some _ =>
    match s.reference a with
    | some k => s.refuse .wrongState (u8 k)
    | none =>
      let s1 := { s with units := s.units.filter (fun u => u.addr != a) }
      (((s1.modPsc (Psc.removeUnit a)).dropClosing a).recomputeEstimate).accept []

/-- SIGN ON; WRONG_STATE gives the contact state, and the workers are taken by slot (R24; logs 31, 32). -/
def State.reqSignOn (a : Nat) (s : State) : Answer :=
  match s.unit? a with
  | none => s.refuse .notFound (u8 a)
  | some u =>
    if u.signedOn then s.refuse .wrongState (u8 u.contact.code)
    else
      let s1 := (s.modUnit a (fun r => { r with
        contact := .neverHeard, budget := s.psc.timing.n, heard := false, lastKey := 0, paused := false })).recomputeEstimate
      let s2 :=
        if s1.runState == .operating then
          ((s1.workersOf a).map WorkerRec.id).foldl (fun s i => s.enterOk i s1.now) s1
        else s1
      ((s2.admitWaiting a).chooseSending a).accept []

/-- SIGN OFF; the reason ALREADY_SIGNED_OFF is 4 (R25, R26). -/
def State.reqSignOff (a : Nat) (s : State) : Answer :=
  match s.unit? a with
  | none => s.refuse .notFound (u8 a)
  | some u =>
    if u.signedOn then
      match s.signOffReason a with
      | some r => s.refuse .wrongState (u8 r)
      | none => (s.signOff a).accept []
    else s.refuse .wrongState (u8 4)

/-- Every field of a unit record (R21). -/
def UnitRec.bytes (u : UnitRec) : List Byte :=
  u8 u.addr ++ u8 u.fleet.code ++ textBytes u.callSign ++ u8 u.cls ++ u8 u.contact.code ++ u8 u.budget
    ++ yesNo u.heard ++ u8 u.lastKey ++ yesNo u.paused ++ optTime u.lastHeard ++ u16 u.hazard

/-- QUERY UNIT; the mark that a sign-off would be accepted is 255 (R37). -/
def State.reqQueryUnit (a : Nat) (s : State) : Answer :=
  if a = 0 then
    s.accept (listBytes (fun u : UnitRec =>
      u8 u.addr ++ u8 u.fleet.code ++ u8 u.contact.code ++ u8 u.budget ++ u8 u.cls) s.units)
  else
    match s.unit? a with
    | none => s.refuse .notFound (u8 a)
    | some u =>
      s.accept (u.bytes ++ u16 (s.ale.rateOf u.cls) ++ u8 u.outbox.length ++ u8 (s.workersOf a).length
        ++ u8 (s.ordersOf a).length ++ u8 (s.stepsOf a).length ++ u8 (s.permitsOf a).length
        ++ u8 (if u.signedOn then (s.signOffReason a).getD 255 else 4))

/-- No code of a list stands twice. -/
def distinct (xs : List Nat) : Bool := decide xs.Nodup

/-- SET STATUS KEYS (R32). -/
def State.reqSetStatusKeys (keys : List KeyArg) (s : State) : Answer :=
  if Config.maxStatusKeys < keys.length || keys.any (fun k => k.code < 1 || 255 < k.code)
      || !distinct (keys.map KeyArg.code) || keys.any (fun k => (ofCode KeyAction.all k.action).isNone) then
    s.outOfRange 1
  else
    let table := keys.map (fun k => (⟨k.code, (ofCode KeyAction.all k.action).getD .noAction, k.report⟩ : StatusKey))
    { s with keys := table }.accept []

end Sys2Proof.Machine
end

