-- ==== Sys2Proof/Machine/Matching.lean ====
section
/-! DEFINITION. Acknowledgement and retries: the matching REPLY, and what each owner is told (R56, R57). -/

namespace Sys2Proof.Machine

/-- The item of a REPLY that acknowledges an entry (R56). -/
def Entry.ackedBy (e : Entry) (i : Item) : Bool :=
  match e.content, i with
  | .segment h x _ _, .segmentAck h' x' => h == h' && x == x'
  | .step id _ _, .readback id' _ _ => id == id'
  | .orderNotice .., .frameAck n => n == e.serial
  | .prompt .., .frameAck n => n == e.serial
  | .stepGo .., .frameAck n => n == e.serial
  | .permitOffer .., .frameAck n => n == e.serial
  | .permitNotice .., .frameAck n => n == e.serial
  | _, _ => false

/-- The owner is told that its frame was acknowledged (R56). -/
def State.tellAcknowledged (a : Nat) (e : Entry) (s : State) : State :=
  match e.source, e.content with
  | .order h, .segment _ i _ _ => s.segmentAcknowledged h i
  | .order h, .orderNotice _ n => s.noticeAcknowledged h n
  | .step x, c => s.stepAcknowledged x c
  | .permit p, _ => s.permitAcknowledged p a
  | _, _ => s

/-- The owner is told that its frame is undelivered (R57). -/
def State.tellUndelivered (a : Nat) (e : Entry) (s : State) : State :=
  match e.source, e.content with
  | .order h, .segment .. => s.endOrder h .failed .undelivered
  | .order h, .orderNotice _ n => s.noticeUndelivered h n
  | .step x, _ => s.stepUndelivered x
  | .permit p, c => s.permitUndelivered p a c e.serial
  | _, _ => s

/-- The owner is told that its SAFETY frame has gone unacknowledged (R57). -/
def State.tellUnacknowledged (a : Nat) (e : Entry) (s : State) : State :=
  match e.source, e.content with
  | .order h, .orderNotice _ n => s.stopUndelivered h n
  | .worker w, .prompt _ p => s.promptUnacknowledged w p
  | .permit p, c => s.permitUnacknowledged p a c e.serial
  | _, _ => s

def Entry.holds (serial : Nat) (e : Entry) : Bool := e.serial == serial

/-- An entry leaves the outbox by its outcome, and its slot is filled by admission (R54, R56, R57). -/
def State.releaseEntry (a serial : Nat) (s : State) : State :=
  (s.modUnit a (fun u => { u with outbox := u.outbox.filter (fun e => !e.holds serial) })).admitWaiting a

/-- An entry returns to READY with the retries given (R57). -/
def State.readyEntry (a serial retries : Nat) (s : State) : State :=
  s.modUnit a (fun u => { u with
    outbox := update (Entry.holds serial) (fun e => { e with retries := retries, awaiting := false }) u.outbox })

/-- One AWAITING_ACK entry against the matching REPLY (R56, R57). -/
def State.resolveEntry (a : Nat) (items : List Item) (s : State) (serial : Nat) : State :=
  match (s.unit? a).bind (fun u => u.outbox.find? (fun e => e.holds serial && e.awaiting)) with
  | none => s
  | some e =>
    if items.any e.ackedBy then (s.releaseEntry a serial).tellAcknowledged a e
    else if 1 < e.retries then s.readyEntry a serial (e.retries - 1)
    else if e.cls < 3 then (s.releaseEntry a serial).tellUndelivered a e
    else (s.tellUnacknowledged a e).readyEntry a serial s.psc.timing.r

/-- The serials of a unit's AWAITING_ACK entries, in outbox order. -/
def State.awaitingSerials (a : Nat) (s : State) : List Nat :=
  match s.unit? a with
  | none => []
  | some u => (u.outbox.filter (·.awaiting)).map (·.serial)

/-- Every AWAITING_ACK entry is resolved against the matching REPLY (R56). -/
def State.resolve (a : Nat) (items : List Item) (s : State) : State :=
  (s.awaitingSerials a).foldl (State.resolveEntry a items) s

/-- PSC takes a REPLY: it ends the unit's window, and resolves the entries if it is the matching REPLY (R41, R56). -/
def State.takeReply (a : Nat) (items : List Item) (t : Millis) (s : State) : State :=
  let s1 := s.modPsc (fun p => { p with
    window := p.window.map (fun w =>
      if w.unit == a && w.repliedAt.isNone then { w with repliedAt := some t } else w) })
  if s1.psc.polled.contains a && !s1.psc.matched.contains a then
    (s1.modPsc (fun p => { p with matched := p.matched ++ [a] })).resolve a items
  else s1

end Sys2Proof.Machine
end

