-- ==== Sys2Proof/Machine/Cycle.lean ====
section
/-! DEFINITION. The polling cycle: picks, windows, cycle starts and ends, GO, RESTART RADIO and the channel's requests
(R39 to R44, R51 to R53, R55, R58 to R61, R175 to R179). -/

namespace Sys2Proof.Machine

/-! ## Sending -/

/-- A fleet's sync word (R4). -/
def Fleet.sync : Fleet → SyncName
  | .home => .a
  | .visiting => .b

/-- ALE takes a send request: PTT asserted, KEYUP, and the receiver stops (R2, R3). -/
def State.startFrame (f : TxFrame) (s : State) : State :=
  s.modAle (fun a => { a with
    txState := .keyup, txFrame := some f, pttTime := s.now, rxState := .hunt, carrierWait := true })

/-- The sync word a name stands for (R4, R13). -/
def Ale.word (a : Ale) : SyncName → Half
  | .a => a.syncA.getD 0
  | .b => a.syncB.getD 0

/-- The bits of a frame in the order they go on air, with the sync word the frame names (R4). -/
def Ale.frameBits (a : Ale) (f : TxFrame) : List Bool := airBits (a.word f.sync) f.bytes

/-- The bit rate a frame is sent at (R2). -/
def Ale.frameRate (a : Ale) (f : TxFrame) : Nat := ((a.rateEntry? f.cls).map (·.rate)).getD 0

/-- The site time at which the first bit of the frame on air begins: K after PTT (R2). -/
def State.sendStart (s : State) : Millis := s.ale.pttTime + s.psc.cycle.k

/-- The site time the last bit of a frame does not end before (R2; log 30). -/
def State.sendEnd (f : TxFrame) (s : State) : Millis :=
  s.sendStart + (s.ale.frameBits f).length * 1000 / s.ale.frameRate f

/-- PTT is asserted outside IDLE (R2). -/
def State.ptt (s : State) : Bool := s.ale.txState != .idle

/-- TXD, mark or space: in SENDING the bit whose bit time the site clock is in, else space (R1, R2, R5; log 30). -/
def State.txd (s : State) : Bool :=
  match s.ale.txState, s.ale.txFrame with
  | .sending, some f =>
    ((s.ale.frameBits f)[(s.now - s.sendStart) * s.ale.frameRate f / 1000]?).getD false
  | _, _ => false

/-- PTT is released: the transmitter is IDLE, the receiver in HUNT with carrier wait set (R2, R3, R5). -/
def Ale.release (a : Ale) : Ale :=
  { a with txState := .idle, txFrame := none, rxState := .hunt, carrierWait := true }

/-- The bytes of a frame with a body of this length (R7). -/
def frameBytes (body : List Byte) : Nat := 6 + body.length

/-! ## Picking traffic -/

/-- An entry that may be picked: an ALLCALL, or an entry of a unit's outbox (R51). -/
inductive Candidate where
  | call (e : CallEntry)
  | entry (u : UnitRec) (e : Entry)
  deriving DecidableEq, Repr

/-- A unit entry is eligible (R51, R59). -/
def State.eligible (u : UnitRec) (e : Entry) (s : State) : Bool :=
  !e.awaiting && u.pollable &&
    (if e.cls = 0 then s.psc.service == .full && !u.paused
     else if e.cls = 1 then (s.psc.service == .full || (s.psc.service == .conserve && e.emergency)) && !u.paused
     else true)

def Candidate.cls : Candidate → Nat
  | .call _ => 3
  | .entry _ e => e.cls

def Candidate.time : Candidate → Millis
  | .call e => e.time
  | .entry _ e => e.time

/-- The highest class, then the oldest time of entry; where neither decides, the broadcast outbox, then the lower
address, then the entry that entered first, which is the order of the list (R51). -/
def Candidate.before (x y : Candidate) : Bool :=
  decide (y.cls < x.cls) || (x.cls == y.cls && decide (x.time < y.time))

/-- The eligible entries, the broadcast outbox first and then the units by address (R51). -/
def State.candidates (s : State) : List Candidate :=
  s.psc.broadcast.map .call
    ++ s.units.flatMap (fun u => (u.outbox.filter (fun e => s.eligible u e)).map (.entry u))

/-- The best eligible entry (R51). -/
def State.bestEntry (s : State) : Option Candidate := bestOf Candidate.before s.candidates

/-- A VISITING unit is in the current cycle's poll list (R52). -/
def Psc.visitors (p : Psc) : Bool := p.pollList.any (fun e => e.fleet == .visiting)

/-- The airtime charged for a candidate, at the cycle's K (R40, R52). -/
def State.cost (c : Candidate) (s : State) : Nat :=
  match c with
  | .call _ =>
    let one := s.ale.airtimeAt s.psc.cycle.k 11 s.ale.slowest
    if s.psc.visitors then 2 * one else one
  | .entry u e => s.ale.airtimeAt s.psc.cycle.k (frameBytes (e.content.body e.serial)) u.cls

/-- The body of an ALLCALL, from the alarm record as it stands (R8, R48). -/
def State.callBody (alarm : Nat) (s : State) : List Byte :=
  match s.alarm? alarm with
  | none => u16 alarm ++ u8 0 ++ u8 0 ++ u8 0
  | some r => u16 r.id ++ u8 r.unit ++ u8 r.slot ++ u8 r.causes.code

/-- PSC gives ALE the frame of a candidate (R40, R51, R52, R115). -/
def State.giveFrame (c : Candidate) (s : State) : State :=
  match c with
  | .call e =>
    let s1 := s.modPsc (fun p => { p with
      broadcast := update (fun x => x.alarm == e.alarm) (fun x => { x with onAir := true }) p.broadcast })
    (s1.modAlarm e.alarm (fun r => { r with allCall := .onAir })).startFrame
      ⟨.allCall s.psc.visitors, 255, kindAllCall, s.callBody e.alarm, s.ale.slowest, .a⟩
  | .entry u e =>
    (s.modUnit u.addr (fun r => { r with
      outbox := update (Entry.holds e.serial) (fun x => { x with onAir := true }) r.outbox })).startFrame
      ⟨.entry u.addr, u.addr, e.content.frameKind, e.content.body e.serial, u.cls, u.fleet.sync⟩

/-! ## Windows -/

/-- W for a class, with the cycle's timing (R45). -/
def State.cycleWindow (cls : Nat) (s : State) : Nat := s.ale.window s.psc.cycle.k s.psc.cycle.t cls

/-- O with the cycle's timing (R44). -/
def State.cycleOpen (s : State) : Nat := s.ale.openWindow s.psc.cycle.k s.psc.cycle.t

/-- Begin a poll or probe window: a POLL to the unit (R41). -/
def State.beginWindow (u : UnitRec) (probe : Bool) (s : State) : State :=
  (s.modPsc (fun p => { p with
    window := some ⟨u.addr, probe, s.now, s.cycleWindow u.cls, none, false⟩
    polled := p.polled ++ [u.addr] })).startFrame
    ⟨.poll, u.addr, kindPoll, u8 s.psc.cycleNumber.toNat, u.cls, u.fleet.sync⟩

/-- A window is passed over and counted (R42). -/
def State.passOver (s : State) : State := s.modPsc (fun p => { p with passedOver := satInc p.passedOver })

/-- OPEN begins (R44). -/
def State.enterOpen (s : State) : State :=
  s.modPsc (fun p => { p with cycleState := .openWindow, window := none, openEnd := s.now + s.cycleOpen })

/-- The probe phase for a candidate that is still LOST: its window, unless there is no time for it (R43). -/
def State.probeUnit (u : UnitRec) (s : State) : State :=
  if s.psc.cycleBound < s.now + s.cycleWindow u.cls + s.cycleOpen then s.passOver.enterOpen
  else s.beginWindow u true

/-- PROBE begins: the pointer takes the candidate's address, and its window begins, or PROBE ends (R43). -/
def State.enterProbe (s : State) : State :=
  let s1 := s.modPsc (fun p => { p with cycleState := .probe, window := none })
  match s.psc.probeCandidate with
  | none => s1.enterOpen
  | some a =>
    let s2 := s1.modPsc (fun p => { p with probePointer := a })
    match (s2.unit? a).filter UnitRec.isLost with
    | none => s2.enterOpen
    | some u => s2.probeUnit u

/-- The unit of a poll list entry that may still be polled (R42). -/
def State.pollable? (e : PollEntry) (s : State) : Option UnitRec :=
  if e.void then none else (s.unit? e.unit).filter UnitRec.signedOn

/-- The time the rest of the cycle needs after an entry (R42). -/
def State.timeAfter (rest : List PollEntry) (s : State) : Nat :=
  s.cycleOpen + sumOf (·.allowance) rest + (if s.psc.probeCandidate.isSome then s.psc.probeAllowance else 0)

/-- The poll list entries still to be handled, in order: each is skipped, passed over, or begun (R42). -/
def State.pollEntries : List PollEntry → State → State
  | [], s => s.enterProbe
  | e :: rest, s =>
    let s1 := s.modPsc (fun p => { p with pollNext := p.pollNext + 1 })
    match s1.pollable? e with
    | none => s1.pollEntries rest
    | some u =>
      if s1.psc.cycleBound < s1.now + s1.cycleWindow u.cls + s1.timeAfter rest then s1.passOver.pollEntries rest
      else s1.beginWindow u false

/-- The next poll list entry, or PROBE after the last (R42, R43). -/
def State.pollOn (s : State) : State := s.pollEntries (s.psc.pollList.drop s.psc.pollNext)

/-- The traffic phase ends and the poll phase begins (R40, R42). -/
def State.enterPoll (s : State) : State := (s.modPsc (fun p => { p with cycleState := .poll })).pollOn

/-- A pick: the best eligible entry is sent if it fits the budget left, else the phase ends (R40). -/
def State.pickTraffic (s : State) : State :=
  match s.bestEntry with
  | none => s.enterPoll
  | some c =>
    if s.cost c ≤ s.psc.budgetLeft then
      (s.modPsc (fun p => { p with budgetLeft := p.budgetLeft - s.cost c })).giveFrame c
    else s.enterPoll

/-! ## Cycle starts and ends -/

/-- The next cycle number; after the last 32-bit value it is free (3.1; log 6). -/
def State.countCycle (s : State) : State :=
  if s.psc.cycleNumber = BitVec.allOnes 32 then
    { s with psc.cycleNumber := Config.freeCycleNumber s.freeDraws, freeDraws := s.freeDraws + 1 }
  else { s with psc.cycleNumber := s.psc.cycleNumber + 1 }

/-- The poll list: the pollable units by address, then the double-polled ones again (R39). -/
def State.pollListNow (k t : Nat) (s : State) : List PollEntry :=
  let entry := fun u : UnitRec => (⟨u.addr, s.ale.window k t u.cls, u.fleet, false⟩ : PollEntry)
  s.pollables.map entry ++ (s.pollables.filter (fun u => s.psc.doublePoll.contains u.addr)).map entry

/-- The probe candidate: the first LOST unit above the pointer, else the lowest LOST unit (R39). -/
def State.candidateNow (s : State) : Option Nat :=
  let lost := s.losts.map UnitRec.addr
  (lost.find? (fun a => decide (s.psc.probePointer < a))).orElse fun _ => lost.head?

/-- A cycle begins: its timing, lists, allowances, estimate in force, bound and budget are fixed (R39). -/
def State.fixCycle (s : State) : State :=
  let v := s.psc.timing
  s.modPsc (fun p => { p with
    cycleState := .traffic, cycle := ⟨v.k, v.t, v.b⟩, pollList := s.pollListNow v.k v.t, pollNext := 0
    probeCandidate := s.candidateNow, probeAllowance := s.probeWindow v.k v.t, estimateInForce := p.estimate
    cycleBound := s.now + p.estimate, budgetLeft := v.b, window := none, polled := [], matched := [] })

/-- A cycle begins and its first pick is made (R39, R40). -/
def State.beginCycle (s : State) : State := s.countCycle.fixCycle.pickTraffic

/-- Every AWAITING_ACK entry returns to READY with retries unchanged (R55, R61). -/
def State.readyAll (s : State) : State :=
  { s with units := s.units.map (fun u => { u with outbox := u.outbox.map (fun e => { e with awaiting := false }) }) }

/-- The end of the open window (R44). -/
def State.openWindowEnd (s : State) : State := s.readyAll.beginCycle

/-- The end of a poll or probe window: a silent one is reported, and PSC goes on (R28, R41, R42, R43). -/
def State.windowEnd (w : Window) (s : State) : State :=
  let s1 := s.modPsc (fun p => { p with window := none })
  let s2 := if w.repliedAt.isNone && !w.void then s1.silentWindow w.unit else s1
  if w.probe then s2.enterOpen else s2.pollOn

/-- The time a window ends: T after the unit's REPLY, or at its full length (R41). -/
def State.windowDue (w : Window) (s : State) : Millis :=
  match w.repliedAt with
  | none => w.began + w.length
  | some t => min (w.began + w.length) (t + s.psc.cycle.t)

/-! ## Completion of a frame (R53) -/

/-- The frame of a unit's entry has been sent: the entry becomes AWAITING_ACK, if it is still the one on air. -/
def State.entrySent (a : Nat) (s : State) : State :=
  s.modUnit a (fun u => { u with
    outbox := update (fun e => e.onAir) (fun e => { e with awaiting := true, onAir := false }) u.outbox })

/-- The last copy of an all-call has been sent: its entry is removed and the alarm counts the call. -/
def State.callDone (s : State) : State :=
  match s.psc.broadcast.find? (·.onAir) with
  | none => s
  | some e =>
    ((s.modPsc (fun p => { p with broadcast := p.broadcast.filter (fun x => !x.onAir) })).callSent e.alarm).admitCalls

/-- ALE reports the completion of a frame (R53); a second copy of an all-call carries the same content (R52). -/
def State.frameSent (f : TxFrame) (s : State) : State :=
  let s1 := s.modAle Ale.release
  match f.purpose with
  | .poll => s1
  | .entry a => (s1.entrySent a).pickTraffic
  | .allCall second =>
    if second && s1.psc.broadcast.any (·.onAir) then
      s1.startFrame { f with purpose := .allCall false, sync := .b }
    else s1.callDone.pickTraffic

/-! ## RESTART RADIO -/

/-- An alarm whose copy is cut short is QUEUED again (R115). -/
def AllCall.cutShort : AllCall → AllCall
  | .onAir => .queued
  | c => c

/-- The current cycle is abandoned: the frame is cut short and its entry stays READY, the window ends unreported
(R53, R61). -/
def State.abandonCycle (s : State) : State :=
  { s with
    ale := s.ale.release
    psc.window := none
    psc.broadcast := s.psc.broadcast.map (fun e => { e with onAir := false })
    units := s.units.map (fun u => { u with outbox := u.outbox.map (fun e => { e with onAir := false }) })
    als.alarms := s.als.alarms.map (fun r => { r with allCall := r.allCall.cutShort }) }

/-- RESTART RADIO (R61). -/
def State.reqRestartRadio (s : State) : Answer :=
  if s.runState == .loading then s.refuse .notOperating []
  else
    let s1 := s.abandonCycle.readyAll.recomputeEstimate.beginCycle
    s1.accept (u32 s1.psc.estimate)

/-! ## GO -/

/-- A signed-on unit starts NEVER_HEARD with a full budget (R176). -/
def UnitRec.start (n : Nat) (u : UnitRec) : UnitRec :=
  if u.signedOn then { u with contact := .neverHeard, budget := n, heard := false } else u

/-- GO opens the channel (R176). -/
def State.openChannel (s : State) : State :=
  { s with
    runState := .operating
    ale := { s.ale with rxEnabled := true, rxState := .hunt, carrierWait := true }
    units := s.units.map (UnitRec.start s.psc.timing.n) }

/-- A worker's unit is signed on. -/
def State.onDuty (s : State) (w : WorkerRec) : Bool := (s.unit? w.unit).any UnitRec.signedOn

/-- GO starts the workers, in the order of their records (R178; log 32). -/
def State.goWorkers (s : State) : State :=
  ((s.lwm.workers.filter s.onDuty).map WorkerRec.id).foldl (fun s i => s.enterOk i s.now) s

/-- GO (R175 to R179); the reasons are 1 RATE_TABLE and 2 SYNC_WORDS. -/
def State.reqGo (s : State) : Answer :=
  if s.runState == .operating then s.refuse .notLoading []
  else if s.ale.rateTable.isEmpty then s.refuse .wrongState (u8 1)
  else if s.ale.syncA.isNone || s.ale.syncB.isNone then s.refuse .wrongState (u8 2)
  else
    let s1 := s.openChannel
    let s2 := s1.goPermits.goWorkers.beginCycle
    s2.accept (u48 s.now ++ u32 s2.psc.estimate ++ u8 (s1.lwm.workers.filter s1.onDuty).length
      ++ u8 (s1.pmt.permits.filter (fun r => r.state.sendsAtGo)).length ++ u8 s1.goOrders)

/-! ## The channel's requests -/

/-- SET SERVICE LEVEL (R59). -/
def State.reqSetServiceLevel (level : Nat) (s : State) : Answer :=
  match ofCode ServiceLevel.all level with
  | none => s.outOfRange 1
  | some l => (s.modPsc (fun p => { p with service := l })).accept (u8 l.code)

/-- The six values after clamping (R60). -/
def clampedTiming (v : TimingArg) : Timing :=
  ⟨clamp 0 250 v.k, clamp 10 200 v.t, clamp 0 30000 v.b, clamp 0 60000 v.g, clamp 2 15 v.n, clamp 1 8 v.r⟩

/-- No entry has more retries left than the new R (R58). -/
def UnitRec.capRetries (r : Nat) (u : UnitRec) : UnitRec :=
  { u with outbox := u.outbox.map (fun e => { e with retries := min r e.retries }) }

/-- SET CHANNEL TIMING (R60, R30, R58, R88). -/
def State.reqSetChannelTiming (v : TimingArg) (s : State) : Answer :=
  let c := clampedTiming v
  let units := s.units.map (fun u => (u.adjustBudget c.n).capRetries c.r)
  let s1 := { s with psc.timing := c, units := units }
  (s1.recomputeEstimateWith c.g, if c == ⟨v.k, v.t, v.b, v.g, v.n, v.r⟩ then .ok else .clamped,
    u16 c.k ++ u16 c.t ++ u16 c.b ++ u16 c.g ++ u8 c.n ++ u8 c.r)

/-- Strictly descending (R12). -/
def descending : List Nat → Bool
  | x :: y :: rest => decide (y < x) && descending (y :: rest)
  | _ => true

def RateEntry.bytes (r : RateEntry) : List Byte := u16 r.rate ++ u16 r.maxLen ++ u16 r.halfLen

/-- SET RATE TABLE (R12); units whose class falls outside the table take its last entry. -/
def State.reqSetRateTable (rates : List Nat) (s : State) : Answer :=
  if s.runState == .operating then s.refuse .notLoading []
  else
    let table := rates.map RateEntry.ofRate
    if rates.length < 1 || 6 < rates.length || rates.any (fun b => decide (b < 300) || decide (9600 < b))
        || !descending rates || !distinct (table.map (·.maxLen)) then
      s.outOfRange 1
    else
      let s1 := { s with ale.rateTable := table, units := s.units.map (UnitRec.clampClass table.length) }
      s1.recomputeEstimate.accept (listBytes RateEntry.bytes table)

/-- The words no sync word may be: all zeros, all ones and the two alternating patterns (R13, R181). -/
def refusedSync : List Half := [0x0000#16, 0xFFFF#16, 0x5555#16, 0xAAAA#16]

/-- The bit positions in which two words differ (R13). -/
def bitDistance (x y : Half) : Nat := ((List.range 16).filter (fun i => x.getLsbD i != y.getLsbD i)).length

/-- SET SYNC WORDS; two words that are too alike are refused with field 2 (R13; log 9). -/
def State.reqSetSyncWords (a b : Half) (s : State) : Answer :=
  if s.runState == .operating then s.refuse .notLoading []
  else if refusedSync.contains a then s.outOfRange 1
  else if refusedSync.contains b || bitDistance a b < 4 then s.outOfRange 2
  else (s.modAle (fun r => { r with syncA := some a, syncB := some b })).accept []

/-- QUERY LINK; an unset sync word is 0 (R19, R183). -/
def State.reqQueryLink (s : State) : Answer :=
  let c := s.ale.counters
  s.accept (u16 c.beyondTable ++ u16 c.noSync ++ u16 c.truncated ++ u16 c.badLength ++ u16 c.badCheck ++ u16 c.badKind
    ++ u16 c.unknownUnit ++ u16 c.wrongFleet ++ u8 s.ale.rxState.code ++ listBytes RateEntry.bytes s.ale.rateTable
    ++ u16 ((s.ale.syncA.map BitVec.toNat).getD 0) ++ u16 ((s.ale.syncB.map BitVec.toNat).getD 0)
    ++ u8 s.ale.txState.code)

end Sys2Proof.Machine
end

