-- ==== Sys2Proof/Machine/Radio.lean ====
section
/-! DEFINITION. The receiver: bursts, the checks of a complete frame, and the hand-off of a valid frame (R14 to R20).
A row whose event cannot arise in the present state changes nothing (log 1). -/

namespace Sys2Proof.Machine

/-! ## The receive states -/

/-- The receiver takes samples: enabled, with PTT released (R1, R3). -/
def Ale.receiving (a : Ale) : Bool := a.rxEnabled && a.txState == .idle

/-- The receiver returns to HUNT (R14 to R17). -/
def Ale.hunt (wait : Bool) (a : Ale) : Ale := { a with rxState := .hunt, carrierWait := wait }

/-- The class of a measured run: the first entry whose max_len is not less than the count (R15). -/
def Ale.classOf (a : Ale) (run : Nat) : Option Nat := a.rateTable.findIdx? (fun r => decide (run ≤ r.maxLen))

/-- The fleet a sync window gives (R16). -/
def Ale.fleetOf (a : Ale) (w : Half) : Option Fleet :=
  if a.syncA == some w then some .home
  else if a.syncB == some w then some .visiting
  else none

def Ale.inMeasure (a : Ale) : Bool :=
  match a.rxState with
  | .measure _ => a.receiving
  | _ => false

/-- A burst starts: MEASURE with a run count of 1 (R14). -/
def Ale.burstStart (a : Ale) : Ale :=
  if a.receiving && a.rxState == .hunt && !a.carrierWait then { a with rxState := .measure 1 } else a

/-- A run shorter than half_len[0] is noise (R14). -/
def Ale.noiseRun (run : Nat) (a : Ale) : Ale :=
  if a.inMeasure && decide (run < a.noise) then a.hunt false else a

/-- Carrier drops in HUNT (R14). -/
def Ale.carrierCleared (a : Ale) : Ale :=
  if a.receiving && a.rxState == .hunt then { a with carrierWait := false } else a

/-- A run is classified by the rate table: the burst's first bit is its mark, and the next is taken half a bit on
(R15, R16). -/
def Ale.runClassified (run : Nat) (a : Ale) : Ale :=
  if a.inMeasure && decide (a.noise ≤ run) then
    match a.classOf run with
    | none => a
    | some c => { a with rxState := .sync c, rxBits := [true], rxWait := a.halfLen c }
  else a

/-- A run longer than every max_len (R15). -/
def Ale.beyond (run : Nat) (a : Ale) : Ale :=
  if a.inMeasure && decide (a.noise ≤ run) && (a.classOf run).isNone then
    { a with counters.beyondTable := satInc a.counters.beyondTable }.hunt true
  else a

/-- The last 16 bits match a sync word (R16). -/
def Ale.syncMatched (w : Half) (a : Ale) : Ale :=
  match a.rxState, a.fleetOf w with
  | .sync c, some f =>
    if a.receiving then { a with rxState := .body c f, rxBits := [], rxWait := 2 * a.halfLen c } else a
  | _, _ => a

/-- The 48th bit completes no match (R16). -/
def Ale.noSyncFound (w : Half) (a : Ale) : Ale :=
  match a.rxState, a.fleetOf w with
  | .sync _, none =>
    if a.receiving then { a with counters.noSync := satInc a.counters.noSync }.hunt true else a
  | _, _ => a

/-- Carrier is lost within a burst: in MEASURE for a run that has reached the noise threshold, in SYNC, in BODY
(R15, R16). -/
def Ale.truncatedBurst (run : Nat) (a : Ale) : Ale :=
  let counts :=
    match a.rxState with
    | .hunt => false
    | .measure _ => decide (a.noise ≤ run)
    | .sync _ => true
    | .body _ _ => true
  if a.receiving && counts then { a with counters.truncated := satInc a.counters.truncated }.hunt false else a

/-- The header's body length exceeds 56 (R17). -/
def Ale.badLengthBurst (length : Byte) (a : Ale) : Ale :=
  match a.rxState with
  | .body _ _ =>
    if a.receiving && decide (Config.maxAirBody < length.toNat) then
      { a with counters.badLength := satInc a.counters.badLength }.hunt true
    else a
  | _ => a

/-! ## Samples -/

/-- Carrier is heard and RXD is at mark (R14). -/
def Sample.marked (x : Sample) : Bool := x.cd && x.mark

/-- The row that a sample of HUNT raises (R14). -/
def Ale.huntRow (x : Sample) (a : Ale) : Option Instr :=
  if a.carrierWait then if x.cd then none else some .carrierWaitCleared
  else if x.marked && !a.lastSample.marked then some .burstStart
  else none

/-- The row that the sample which ends a run raises (R14, R15). -/
def Ale.runRow (run : Nat) (x : Sample) (a : Ale) : Instr :=
  if run < a.noise then .noiseRun run
  else if !x.cd then .truncated run
  else if (a.classOf run).isNone then .beyondTable run
  else .runClassified run

/-- The row that the bits taken in SYNC raise, the lead mark first: a comparison after each bit from the 16th, and the
48th is the last (R16). -/
def Ale.syncRow (bits : List Bool) (a : Ale) : Option Instr :=
  if 16 ≤ bits.length ∧ (a.fleetOf (bitsWindow bits)).isSome then some (.syncMatched (bitsWindow bits))
  else if 48 ≤ bits.length then some (.noSync (bitsWindow bits))
  else none

/-- The row that the bits taken in BODY raise: the body length is the fourth byte, and the second CRC byte the last
(R17). -/
def bodyRow (bits : List Bool) : Option Instr :=
  match bitsBytes bits with
  | d :: s :: k :: length :: rest =>
    if Config.maxAirBody < length.toNat then some (.burstBadLength length)
    else if rest.length = length.toNat + 2 then some (.frameComplete (d :: s :: k :: length :: rest))
    else none
  | _ => none

/-- A sample of SYNC or BODY: the loss of carrier ends the burst, and RXD is taken once per bit (R16). -/
def Ale.bitSample (cls : Nat) (row : List Bool → Option Instr) (x : Sample) (a : Ale) : Ale × Option Instr :=
  if !x.cd then (a, some (.truncated 0))
  else if 1 < a.rxWait then ({ a with rxWait := a.rxWait - 1 }, none)
  else ({ a with rxBits := a.rxBits ++ [x.mark], rxWait := 2 * a.halfLen cls }, row (a.rxBits ++ [x.mark]))

/-- The receiver takes one sample: what it then holds, and the row the sample raises (R14 to R17). -/
def Ale.takeSample (x : Sample) (a : Ale) : Ale × Option Instr :=
  let b := { a with lastSample := x }
  match a.rxState with
  | .hunt => (b, a.huntRow x)
  | .measure run =>
    if x.marked then ({ b with rxState := .measure (min Config.runMax (run + 1)) }, none)
    else (b, some (a.runRow run x))
  | .sync cls => b.bitSample cls a.syncRow x
  | .body cls _ => b.bitSample cls bodyRow x

/-! ## A complete frame -/

/-- The parts of a complete frame: destination, source, kind, body, and whether its check holds (R7, R18). -/
structure AirParts where
  dest : Byte
  source : Byte
  kind : Byte
  body : List Byte
  checked : Bool
  deriving DecidableEq, Repr

/-- Take a complete frame apart; the bytes run from the destination to the second CRC byte (R7). -/
def airParts (bytes : List Byte) : Option AirParts :=
  match bytes with
  | dest :: source :: kind :: length :: rest =>
    if length.toNat ≤ Config.maxAirBody ∧ rest.length = length.toNat + 2 then
      some ⟨dest, source, kind, rest.take length.toNat,
        crcBytes (bytes.take (4 + length.toNat)) == rest.drop length.toNat⟩
    else none
  | _ => none

/-- Checks 3 and 4 of R18. -/
def AirParts.fit (p : AirParts) : Fit :=
  if p.kind.toNat = kindReply then fitReply p.body
  else if p.kind.toNat = kindAlert then fitAlert p.body
  else .badKind

def State.modCounters (f : Counters → Counters) (s : State) : State :=
  s.modAle (fun a => { a with counters := f a.counters })

/-- An item of a REPLY goes to its owner (R20 step 5). -/
def State.takeItem (a : Nat) (t : Millis) (s : State) (i : Item) : State :=
  match i with
  | .segmentAck .. => s
  | .frameAck _ => s
  | .orderState h c => s.crewReport a h c
  | .readback x d o => s.readback a x d o
  | .stepDone x p => s.stepDone a x p t
  | .permitAccept p n serial => s.permitAccept a p n serial
  | .permitSurrender p => s.permitSurrender a p

/-- The unit is signed on as the record stands. -/
def State.isSignedOn (a : Nat) (s : State) : Bool := (s.unit? a).any UnitRec.signedOn

/-- Steps 2 to 5 of the hand-off; a sign-off by the status key discards what stands behind it (R20, R36). -/
def State.handContents (a : Nat) (f : UnitFrame) (t : Millis) (s : State) : State :=
  match f with
  | .alert slot cause => s.report a slot cause true t
  | .reply key reports items =>
    let s1 := (s.takeReply a items t).statusKey a key t
    if s1.isSignedOn a then
      let s2 := reports.foldl (fun s r => s.report a r.slot r.condition false t) s1
      items.foldl (State.takeItem a t) s2
    else s1

/-- An ALERT of a LOST unit regains it in the sense of R42 (R27). A REPLY of one does not, though it comes after its window
has ended: the unit keeps its entries of the poll list (DESIGN CHOICE, log 36). -/
def State.regainedBy (a : Nat) (f : UnitFrame) (s : State) : Bool :=
  match f with
  | .alert .. => (s.unit? a).any UnitRec.isLost
  | .reply .. => false

/-- The hand-off of a valid frame: UTB first; a frame from a SIGNED_OFF unit goes to UTB alone (R20). A unit regained by
an ALERT, heard before or not, is not polled until the next cycle; a window it has open runs on (R41, R42; log 35). -/
def State.handOff (a cls : Nat) (f : UnitFrame) (s : State) : State :=
  let s1 := s.heardFrame a cls s.now
  let s2 := if s.regainedBy a f then s1.modPsc (Psc.voidEntries a) else s1
  if s.isSignedOn a then s2.handContents a f s.now else s2

/-- Checks 5 and 6 of R18, then the hand-off; the class in UNKNOWN_UNIT takes 1 byte (log 8). -/
def State.checkRoster (a cls : Nat) (fleet : Fleet) (f : UnitFrame) (s : State) : State :=
  match s.unit? a with
  | none =>
    (s.modCounters (fun c => { c with unknownUnit := satInc c.unknownUnit })).raise .unknownUnit (.unit a)
      (u8 fleet.code ++ u8 cls)
  | some u =>
    if u.fleet != fleet then
      (s.modCounters (fun c => { c with wrongFleet := satInc c.wrongFleet })).raise .wrongFleet (.unit a)
        (u8 fleet.code)
    else s.handOff a cls f

/-- The checks of R18, in order. -/
def State.checkFrame (p : AirParts) (cls : Nat) (fleet : Fleet) (s : State) : State :=
  if !p.checked then s.modCounters (fun c => { c with badCheck := satInc c.badCheck })
  else if p.dest.toNat != 0 then s
  else
    match p.fit with
    | .badLength => s.modCounters (fun c => { c with badLength := satInc c.badLength })
    | .badKind => s.modCounters (fun c => { c with badKind := satInc c.badKind })
    | .fits f => s.checkRoster p.source.toNat cls fleet f

/-- A frame is complete: the receiver is in HUNT with carrier wait set, the frame is checked, and once the whole event
has been taken ALS looks at the double-poll set (R17, R18, R117). -/
def State.frameComplete (bytes : List Byte) (s : State) : State :=
  match s.ale.rxState, airParts bytes with
  | .body cls fleet, some p =>
    if s.ale.receiving then ((s.modAle (Ale.hunt true)).checkFrame p cls fleet).settle else s
  | _, _ => s

end Sys2Proof.Machine
end

