-- ==== Sys2Proof/Machine/Link.lean ====
section
/-! DEFINITION. The Controller Link Port: the reply order, the taking of a request, and CLP's own requests
(R161 to R170). -/

namespace Sys2Proof.Machine

/-! ## CLP's own requests -/

/-- The kind a code names in SET EVENT LEVELS (R184). -/
def eventKindOf (code : Nat) : Option EventKind := ofCode EventKind.all code

/-- A pair SET EVENT LEVELS refuses: an unknown kind, a level above 3, or a fixed kind not at 3 (R168). -/
def badPair (p : Nat × Nat) : Bool :=
  match eventKindOf p.1 with
  | none => true
  | some k => decide (3 < p.2) || (k.fixed && p.2 != 3)

/-- Set the level of the kind of a code (R168). -/
def setLevel (levels : List Nat) (p : Nat × Nat) : List Nat := levels.set (p.1 - 1) p.2

/-- SET EVENT LEVELS (R168). -/
def State.reqSetEventLevels (pairs : List (Nat × Nat)) (s : State) : Answer :=
  if pairs.length < 1 || 64 < pairs.length || pairs.any badPair || !distinct (pairs.map Prod.fst) then s.outOfRange 1
  else
    let levels := pairs.foldl setLevel s.clp.levels
    (s.modClp (fun c => { c with levels := levels })).accept (listBytes u8 levels)

/-- The highest level present in the queue, 0 for an empty one. -/
def highestLevel (q : List EventEntry) : Nat := q.foldr (fun e m => max e.level m) 0

/-- Select up to n entries, the highest level first and within a level the oldest; and what is left, in order
(R169). -/
def collect : Nat → List EventEntry → List EventEntry × List EventEntry
  | 0, q => ([], q)
  | n + 1, q =>
    match q.find? (fun e => e.level == highestLevel q) with
    | none => ([], q)
    | some e =>
      let (taken, left) := collect n (removeFirst (fun x => x.level == highestLevel q) q)
      (e :: taken, left)

/-- COLLECT EVENTS (R169, R170). -/
def State.reqCollectEvents (s : State) : Answer :=
  let (taken, left) := collect Config.maxCollected s.clp.queue
  (s.modClp (fun c => { c with queue := left, attn := !left.isEmpty, lost := 0, highestLost := 0 })).accept
    (listBytes EventEntry.bytes taken ++ u8 left.length ++ u16 s.clp.lost ++ u8 s.clp.highestLost)

/-- The sum of ALE's eight counters, holding at 65,535 (R165). -/
def Counters.sum (c : Counters) : Nat :=
  min Config.counterMax (c.beyondTable + c.noSync + c.truncated + c.badLength + c.badCheck + c.badKind + c.unknownUnit
    + c.wrongFleet)

/-- The entries of a level in the queue. -/
def Clp.countAt (l : Nat) (c : Clp) : Nat := (c.queue.filter (fun e => e.level == l)).length

/-- QUERY PART; the entries at each level are three bytes, for the levels 1, 2 and 3, with no count byte, and the level of
SITE ALARM is 1 for asserted and 0 for released (R165, R183; log 10). -/
def State.reqQueryPart (s : State) : Answer :=
  let c := s.clp
  let p := s.psc
  s.accept (u8 s.runState.code ++ u48 s.now ++ u8 p.service.code ++ u32 c.lineRate
    ++ u32 p.estimate ++ u8 p.cycleState.code ++ u32 p.cycleNumber.toNat
    ++ u32 (if p.cycleState == .stopped then 2 ^ 32 - 1 else p.estimateInForce) ++ u16 p.passedOver
    ++ u16 c.lengthDiscards ++ u16 c.gapDiscards ++ u16 c.badFrames ++ u16 c.busies ++ u16 c.overruns
    ++ u16 s.ale.counters.sum
    ++ u8 c.queue.length ++ u8 (c.countAt 1) ++ u8 (c.countAt 2) ++ u8 (c.countAt 3) ++ u16 c.lost ++ u8 c.highestLost
    ++ u8 s.units.length ++ u8 s.lwm.workers.length ++ u8 s.wos.orders.length ++ u8 s.als.alarms.length
    ++ u8 s.swr.devices.length ++ u8 s.swr.steps.length ++ u8 s.pmt.permits.length ++ u8 s.pmt.closing.length
    ++ yesNo s.als.siteAlarm)

/-! ## The owner's rule -/

/-- The owner's rule for each request (R163). -/
def State.answer (r : Request) (s : State) : Answer :=
  match r with
  | .go => s.reqGo
  | .restartRadio => s.reqRestartRadio
  | .setServiceLevel l => s.reqSetServiceLevel l
  | .queryPart => s.reqQueryPart
  | .queryLink => s.reqQueryLink
  | .setRateTable rs => s.reqSetRateTable rs
  | .setSyncWords a b => s.reqSetSyncWords a b
  | .setChannelTiming v => s.reqSetChannelTiming v
  | .setClassIntervals v => s.reqSetClassIntervals v
  | .setStatusKeys ks => s.reqSetStatusKeys ks
  | .setEventLevels ps => s.reqSetEventLevels ps
  | .defineUnit v => s.reqDefineUnit v
  | .removeUnit a => s.reqRemoveUnit a
  | .signOn a => s.reqSignOn a
  | .signOff a => s.reqSignOff a
  | .defineWorker w a => s.reqDefineWorker w a
  | .moveWorker w a => s.reqMoveWorker w a
  | .removeWorker w => s.reqRemoveWorker w
  | .queryUnit a => s.reqQueryUnit a
  | .queryWorker x => s.reqQueryWorker x
  | .postOrder v => s.reqPostOrder v
  | .recallOrder n => s.reqRecallOrder n
  | .relinkOrder n p => s.reqRelinkOrder n p
  | .queryOrder x => s.reqQueryOrder x
  | .ackAlarm a c => s.reqAckAlarm a c
  | .resolveAlarm a => s.reqResolveAlarm a
  | .queryAlarms a => s.reqQueryAlarms a
  | .defineDevice n k m p => s.reqDefineDevice n k m p
  | .setPosition d p => s.reqSetPosition d p
  | .queueStep d o u => s.reqQueueStep d o u
  | .confirmStep x => s.reqConfirmStep x
  | .abortStep x => s.reqAbortStep x
  | .queryDevice d => s.reqQueryDevice d
  | .querySteps a => s.reqQuerySteps a
  | .definePermit v => s.reqDefinePermit v
  | .issuePermit p => s.reqIssuePermit p
  | .withdrawPermit p => s.reqWithdrawPermit p
  | .suspendPermit p => s.reqSuspendPermit p
  | .resumePermit p => s.reqResumePermit p
  | .confirmSurrender p => s.reqConfirmSurrender p
  | .forceCancel p => s.reqForceCancel p
  | .restorePermit v x => s.reqRestorePermit v x
  | .queryPermit p => s.reqQueryPermit p
  | .collectEvents => s.reqCollectEvents
  | .unknownKind => s.refuse .unknownKind []
  | .badLength => s.refuse .badLength []

/-! ## The reply order -/

def Place.isRequest : Place → Bool
  | .request .. => true
  | .mark .. => false

/-- The requests in the FIFO (R162). -/
def Clp.requests (c : Clp) : Nat := (c.order.filter Place.isRequest).length
/-- The refusal marks held (R162). -/
def Clp.marks (c : Clp) : Nat := (c.order.filter (fun p => !p.isRequest)).length

/-- Place a refusal mark, or count an overrun when 4 are held (R162). -/
def Clp.placeMark (kind tag : Byte) (outcome : ReplyOutcome) (c : Clp) : Clp :=
  if c.marks < Config.maxMarks then { c with order := c.order ++ [.mark kind tag outcome] }
  else { c with overruns := satInc c.overruns }

/-- Place an arrived request: in the FIFO, else as a BUSY mark, else not at all (R162). -/
def Clp.placeRequest (kind tag : Byte) (r : Request) (c : Clp) : Clp :=
  if c.requests < Config.maxRequests then { c with order := c.order ++ [.request kind tag r] }
  else c.placeMark kind tag .busy

/-- The refusals sent are counted (R162). -/
def Clp.countRefusal (outcome : ReplyOutcome) (c : Clp) : Clp :=
  match outcome with
  | .busy => { c with busies := satInc c.busies }
  | .badFrame => { c with badFrames := satInc c.badFrames }
  | _ => c

/-- Take a request: the owner's rule, whole, then its reply begins (R163). What the reply says is fixed before the
double-poll set is brought up to date (log 12). -/
def State.takeRequest (kind tag : Byte) (r : Request) (s : State) : State :=
  let (s1, outcome, body) := s.answer r
  s1.settle.modClp (fun c => { c with sending := some ⟨kind, tag, outcome, body⟩ })

/-- Serve the head of the reply order if the line transmitter is idle (R163). -/
def State.serve (s : State) : State :=
  if s.clp.sending.isSome then s
  else
    match s.clp.order with
    | [] => s
    | .mark kind tag outcome :: rest =>
      s.modClp (fun c => { c.countRefusal outcome with order := rest, sending := some ⟨kind, tag, outcome, []⟩ })
    | .request kind tag r :: rest => (s.modClp (fun c => { c with order := rest })).takeRequest kind tag r

/-- A reply has been sent to its last CRC byte (R163). -/
def State.replySent (s : State) : State :=
  if s.clp.sending.isSome then (s.modClp (fun c => { c with sending := none })).serve else s

/-! ## Arrival -/

/-- A whole request frame has arrived with its check correct (R161, R162). -/
def State.arrive (kind tag : Byte) (r : Request) (s : State) : State :=
  (s.modClp (fun c => { c with inFrame := false }.placeRequest kind tag r)).serve

/-- A request row: the frame of a request arrives whole; nothing is taken while RESET is asserted (R172; log 2). -/
def State.requestArrives (tag : Byte) (r : Request) (s : State) : State :=
  if s.resetAsserted then s else s.arrive (BitVec.ofNat 8 r.kindCode) tag r

/-- The parts of a serial frame: kind, tag, body, and whether its check holds (R161, R183). -/
structure SerialParts where
  kind : Byte
  tag : Byte
  body : List Byte
  checked : Bool
  deriving DecidableEq, Repr

/-- Take a serial frame apart; the bytes run from the first length byte to the second CRC byte (R161). -/
def serialParts (bytes : List Byte) : Option SerialParts :=
  match bytes with
  | hi :: lo :: kind :: tag :: rest =>
    let n := beNat [hi, lo]
    if 2 ≤ n ∧ n ≤ 1022 ∧ rest.length = n then
      some ⟨kind, tag, rest.take (n - 2), crcBytes (bytes.take (n + 2)) == rest.drop (n - 2)⟩
    else none
  | _ => none

/-- The line receiver is taking a frame. -/
def State.takingFrame (s : State) : Bool := !s.resetAsserted && s.clp.inFrame

/-- The second CRC byte of a frame is taken (R161): a request, or a BAD_FRAME mark. -/
def State.frameArrived (bytes : List Byte) (s : State) : State :=
  match serialParts bytes with
  | none => s
  | some p =>
    if s.takingFrame then
      if p.checked then s.arrive p.kind p.tag (decodeRequest p.kind p.body)
      else (s.modClp (fun c => { c with inFrame := false }.placeMark p.kind p.tag .badFrame)).serve
    else s

/-- A length outside 2 to 1,022 discards the frame (R161). -/
def State.lengthDiscard (length : Half) (s : State) : State :=
  if s.takingFrame && (decide (length.toNat < 2) || decide (1022 < length.toNat)) then
    s.modClp (fun c => { c with inFrame := false, lengthDiscards := satInc c.lengthDiscards })
  else s

/-- A gap or a missing stop bit discards the frame (R161). -/
def State.gapDiscard (s : State) : State :=
  if s.takingFrame then s.modClp (fun c => { c with inFrame := false, gapDiscards := satInc c.gapDiscards }) else s

/-- A start byte begins a frame; within a frame it is data (R161). -/
def State.startByte (s : State) : State :=
  if s.resetAsserted then s else s.modClp (fun c => { c with inFrame := true })

end Sys2Proof.Machine
end

