-- ==== Sys2Proof/Machine/LineCommands.lean ====
section
/-! DEFINITION. The rows of power, RESET, the site clock and the serial line (R160 to R163, R171, R172). -/

namespace Sys2Proof.Machine

/-- What a command answers; no command of this part faults or is refused. -/
abbrev Result := Host.Outcome State Fault Refusal

/-- POWER_ON: an assertion of RESET followed by its release (R172). -/
def execPowerOn (strap1 strap2 : Bool) (s : State) : Result :=
  .next (State.powerOn s.pending s.air s.freeDraws false (strapRate strap1 strap2))

/-- RESET_ASSERTION: everything in progress is cut short, and the part holds its power-on condition (R172). -/
def execResetAssertion (s : State) : Result :=
  .next (State.powerOn s.pending s.air s.freeDraws true s.clp.lineRate)

/-- RESET_RELEASE: the clock starts from 0, the straps are read, the run state is LOADING (R160, R172). -/
def execResetRelease (strap1 strap2 : Bool) (s : State) : Result :=
  if s.resetAsserted then .next (State.powerOn s.pending s.air s.freeDraws false (strapRate strap1 strap2)) else .next s

/-- The site clock advances by one; it is held at 0 while RESET is asserted, and free after its last value
(R171, R172; log 6). -/
def execSiteClockTick (s : State) : Result :=
  if s.resetAsserted then .next s
  else if s.clock = BitVec.allOnes 48 then
    .next { s with clock := Config.freeClock s.freeDraws, freeDraws := s.freeDraws + 1 }
  else .next { s with clock := s.clock + 1 }

/-- START_BYTE (R161). -/
def execStartByte (s : State) : Result := .next s.startByte

/-- REQUEST_FRAME_ARRIVED (R161 to R163). -/
def execRequestFrameArrived (bytes : List Byte) (s : State) : Result := .next (s.frameArrived bytes)

/-- LENGTH_DISCARD (R161). -/
def execLengthDiscard (length : Half) (s : State) : Result := .next (s.lengthDiscard length)

/-- GAP_DISCARD (R161). -/
def execGapDiscard (s : State) : Result := .next s.gapDiscard

/-- REPLY_SENT (R163). -/
def execReplySent (s : State) : Result := .next s.replySent

end Sys2Proof.Machine
end

