-- ==== Sys2Proof/Machine/Requests.lean ====
section
/-! DEFINITION. The request rows: each request arrives as a whole frame and is placed, and the reply order is served. -/

namespace Sys2Proof.Machine

/-- GO (R175): its request arrives (R161 to R163). -/
def execGo (tag : Byte) (s : State) : Result :=
  .next (s.requestArrives tag .go)

/-- RESTART RADIO (R61): its request arrives (R161 to R163). -/
def execRestartRadio (tag : Byte) (s : State) : Result :=
  .next (s.requestArrives tag .restartRadio)

/-- SET SERVICE LEVEL (R59): its request arrives (R161 to R163). -/
def execSetServiceLevel (tag : Byte) (level : Nat) (s : State) : Result :=
  .next (s.requestArrives tag (.setServiceLevel level))

/-- QUERY PART (R165): its request arrives (R161 to R163). -/
def execQueryPart (tag : Byte) (s : State) : Result :=
  .next (s.requestArrives tag .queryPart)

/-- QUERY LINK (R19): its request arrives (R161 to R163). -/
def execQueryLink (tag : Byte) (s : State) : Result :=
  .next (s.requestArrives tag .queryLink)

/-- SET RATE TABLE (R12): its request arrives (R161 to R163). -/
def execSetRateTable (tag : Byte) (rates : List Nat) (s : State) : Result :=
  .next (s.requestArrives tag (.setRateTable rates))

/-- SET SYNC WORDS (R13): its request arrives (R161 to R163). -/
def execSetSyncWords (tag : Byte) (a : Half) (b : Half) (s : State) : Result :=
  .next (s.requestArrives tag (.setSyncWords a b))

/-- SET CHANNEL TIMING (R60): its request arrives (R161 to R163). -/
def execSetChannelTiming (tag : Byte) (v : TimingArg) (s : State) : Result :=
  .next (s.requestArrives tag (.setChannelTiming v))

/-- SET CLASS INTERVALS (R86): its request arrives (R161 to R163). -/
def execSetClassIntervals (tag : Byte) (v : IntervalsArg) (s : State) : Result :=
  .next (s.requestArrives tag (.setClassIntervals v))

/-- SET STATUS KEYS (R32): its request arrives (R161 to R163). -/
def execSetStatusKeys (tag : Byte) (keys : List KeyArg) (s : State) : Result :=
  .next (s.requestArrives tag (.setStatusKeys keys))

/-- SET EVENT LEVELS (R168): its request arrives (R161 to R163). -/
def execSetEventLevels (tag : Byte) (pairs : List (Nat × Nat)) (s : State) : Result :=
  .next (s.requestArrives tag (.setEventLevels pairs))

/-- DEFINE UNIT (R22): its request arrives (R161 to R163). -/
def execDefineUnit (tag : Byte) (v : UnitArg) (s : State) : Result :=
  .next (s.requestArrives tag (.defineUnit v))

/-- REMOVE UNIT (R23): its request arrives (R161 to R163). -/
def execRemoveUnit (tag : Byte) (addr : Nat) (s : State) : Result :=
  .next (s.requestArrives tag (.removeUnit addr))

/-- SIGN ON (R24): its request arrives (R161 to R163). -/
def execSignOn (tag : Byte) (addr : Nat) (s : State) : Result :=
  .next (s.requestArrives tag (.signOn addr))

/-- SIGN OFF (R25): its request arrives (R161 to R163). -/
def execSignOff (tag : Byte) (addr : Nat) (s : State) : Result :=
  .next (s.requestArrives tag (.signOff addr))

/-- DEFINE WORKER (R85): its request arrives (R161 to R163). -/
def execDefineWorker (tag : Byte) (worker : Nat) (addr : Nat) (s : State) : Result :=
  .next (s.requestArrives tag (.defineWorker worker addr))

/-- MOVE WORKER (R102): its request arrives (R161 to R163). -/
def execMoveWorker (tag : Byte) (worker : Nat) (addr : Nat) (s : State) : Result :=
  .next (s.requestArrives tag (.moveWorker worker addr))

/-- REMOVE WORKER (R103): its request arrives (R161 to R163). -/
def execRemoveWorker (tag : Byte) (worker : Nat) (s : State) : Result :=
  .next (s.requestArrives tag (.removeWorker worker))

/-- QUERY UNIT (R37): its request arrives (R161 to R163). -/
def execQueryUnit (tag : Byte) (addr : Nat) (s : State) : Result :=
  .next (s.requestArrives tag (.queryUnit addr))

/-- QUERY WORKER (R104): its request arrives (R161 to R163). -/
def execQueryWorker (tag : Byte) (sel : Selector) (s : State) : Result :=
  .next (s.requestArrives tag (.queryWorker sel))

/-- POST ORDER (R63): its request arrives (R161 to R163). -/
def execPostOrder (tag : Byte) (v : OrderArg) (s : State) : Result :=
  .next (s.requestArrives tag (.postOrder v))

/-- RECALL ORDER (R79): its request arrives (R161 to R163). -/
def execRecallOrder (tag : Byte) (number : Nat) (s : State) : Result :=
  .next (s.requestArrives tag (.recallOrder number))

/-- RELINK ORDER (R78): its request arrives (R161 to R163). -/
def execRelinkOrder (tag : Byte) (number : Nat) (permit : Nat) (s : State) : Result :=
  .next (s.requestArrives tag (.relinkOrder number permit))

/-- QUERY ORDER (R83): its request arrives (R161 to R163). -/
def execQueryOrder (tag : Byte) (sel : Selector) (s : State) : Result :=
  .next (s.requestArrives tag (.queryOrder sel))

/-- ACK ALARM (R110): its request arrives (R161 to R163). -/
def execAckAlarm (tag : Byte) (alarm : Nat) (count : Nat) (s : State) : Result :=
  .next (s.requestArrives tag (.ackAlarm alarm count))

/-- RESOLVE ALARM (R111): its request arrives (R161 to R163). -/
def execResolveAlarm (tag : Byte) (alarm : Nat) (s : State) : Result :=
  .next (s.requestArrives tag (.resolveAlarm alarm))

/-- QUERY ALARMS (R119): its request arrives (R161 to R163). -/
def execQueryAlarms (tag : Byte) (alarm : Nat) (s : State) : Result :=
  .next (s.requestArrives tag (.queryAlarms alarm))

/-- DEFINE DEVICE (R121): its request arrives (R161 to R163). -/
def execDefineDevice (tag : Byte) (number : Nat) (kind : Nat) (name : List Byte) (position : Nat) (s : State) : Result :=
  .next (s.requestArrives tag (.defineDevice number kind name position))

/-- SET POSITION (R136): its request arrives (R161 to R163). -/
def execSetPosition (tag : Byte) (device : Nat) (position : Nat) (s : State) : Result :=
  .next (s.requestArrives tag (.setPosition device position))

/-- QUEUE STEP (R126): its request arrives (R161 to R163). -/
def execQueueStep (tag : Byte) (device : Nat) (operation : Nat) (unit : Nat) (s : State) : Result :=
  .next (s.requestArrives tag (.queueStep device operation unit))

/-- CONFIRM STEP (R131): its request arrives (R161 to R163). -/
def execConfirmStep (tag : Byte) (step : Nat) (s : State) : Result :=
  .next (s.requestArrives tag (.confirmStep step))

/-- ABORT STEP (R133): its request arrives (R161 to R163). -/
def execAbortStep (tag : Byte) (step : Nat) (s : State) : Result :=
  .next (s.requestArrives tag (.abortStep step))

/-- QUERY DEVICE (R137): its request arrives (R161 to R163). -/
def execQueryDevice (tag : Byte) (device : Nat) (s : State) : Result :=
  .next (s.requestArrives tag (.queryDevice device))

/-- QUERY STEPS (R138): its request arrives (R161 to R163). -/
def execQuerySteps (tag : Byte) (addr : Nat) (s : State) : Result :=
  .next (s.requestArrives tag (.querySteps addr))

/-- DEFINE PERMIT (R140): its request arrives (R161 to R163). -/
def execDefinePermit (tag : Byte) (v : PermitArg) (s : State) : Result :=
  .next (s.requestArrives tag (.definePermit v))

/-- ISSUE PERMIT (R142): its request arrives (R161 to R163). -/
def execIssuePermit (tag : Byte) (permit : Nat) (s : State) : Result :=
  .next (s.requestArrives tag (.issuePermit permit))

/-- WITHDRAW PERMIT (R144): its request arrives (R161 to R163). -/
def execWithdrawPermit (tag : Byte) (permit : Nat) (s : State) : Result :=
  .next (s.requestArrives tag (.withdrawPermit permit))

/-- SUSPEND PERMIT (R148): its request arrives (R161 to R163). -/
def execSuspendPermit (tag : Byte) (permit : Nat) (s : State) : Result :=
  .next (s.requestArrives tag (.suspendPermit permit))

/-- RESUME PERMIT (R150): its request arrives (R161 to R163). -/
def execResumePermit (tag : Byte) (permit : Nat) (s : State) : Result :=
  .next (s.requestArrives tag (.resumePermit permit))

/-- CONFIRM SURRENDER (R154): its request arrives (R161 to R163). -/
def execConfirmSurrender (tag : Byte) (permit : Nat) (s : State) : Result :=
  .next (s.requestArrives tag (.confirmSurrender permit))

/-- FORCE CANCEL (R155): its request arrives (R161 to R163). -/
def execForceCancel (tag : Byte) (permit : Nat) (s : State) : Result :=
  .next (s.requestArrives tag (.forceCancel permit))

/-- RESTORE PERMIT (R157): its request arrives (R161 to R163). -/
def execRestorePermit (tag : Byte) (v : PermitArg) (state : Nat) (s : State) : Result :=
  .next (s.requestArrives tag (.restorePermit v state))

/-- QUERY PERMIT (R159): its request arrives (R161 to R163). -/
def execQueryPermit (tag : Byte) (permit : Nat) (s : State) : Result :=
  .next (s.requestArrives tag (.queryPermit permit))

/-- COLLECT EVENTS (R169): its request arrives (R161 to R163). -/
def execCollectEvents (tag : Byte) (s : State) : Result :=
  .next (s.requestArrives tag .collectEvents)

end Sys2Proof.Machine
end

