-- ==== Sys2Proof/Machine/TimerCommands.lean ====
section
/-! DEFINITION. The rows of the radio port and of the part's own timing (R2, R14 to R18, R41, R44, R53, R54, R95, R97,
R99, R113, R114). A row whose event cannot arise in the present state changes nothing (log 1); a timed event is taken
with the site clock at or past its time (log 5). -/

namespace Sys2Proof.Machine

/-! ## The transmitter and the cycle -/

/-- KEYUP_DELAY_EXPIRY: K ms after PTT was asserted the transmitter enters SENDING (R2). -/
def execKeyupDelayExpiry (s : State) : Result :=
  if s.ale.txState = .keyup ∧ s.sendStart ≤ s.now then
    .next (s.modAle (fun a => { a with txState := .sending }))
  else .next s

/-- FRAME_SEND_COMPLETION: at the end of the last bit PTT is released and PSC takes the completion (R2, R53). -/
def execFrameSendCompletion (s : State) : Result :=
  match s.ale.txFrame with
  | some f => if s.ale.txState = .sending ∧ s.sendEnd f ≤ s.now then .next (s.frameSent f) else .next s
  | none => .next s

/-- POLL_WINDOW_END (R28, R41, R42, R43). -/
def execPollWindowEnd (s : State) : Result :=
  match s.psc.window with
  | some w => if s.ale.txState = .idle ∧ s.windowDue w ≤ s.now then .next (s.windowEnd w).settle else .next s
  | none => .next s

/-- OPEN_WINDOW_END (R39, R44, R55). -/
def execOpenWindowEnd (s : State) : Result :=
  if s.psc.cycleState = .openWindow ∧ s.psc.openEnd ≤ s.now then .next s.openWindowEnd else .next s

/-- DEMAND_ADMISSION: a waiting demand enters the outbox of a unit, or (0) the broadcast outbox (R54). -/
def execDemandAdmission (addr : Nat) (s : State) : Result :=
  if addr = 0 then .next s.admitCalls else .next (s.admitWaiting addr)

/-! ## Workers and alarms -/

/-- A time a record holds has been reached (R171). -/
def State.reached (t : Option Millis) (s : State) : Bool := t.any (fun t => decide (t ≤ s.now))

/-- WORKER_DEADLINE_REACHED (R95). -/
def execWorkerDeadlineReached (worker : Nat) (s : State) : Result :=
  match s.worker? worker with
  | some w => if w.state = .ok ∧ s.reached w.deadline then .next (s.fallDue worker).settle else .next s
  | none => .next s

/-- PROMPT_WINDOW_END (R97). -/
def execPromptWindowEnd (worker : Nat) (s : State) : Result :=
  match s.worker? worker with
  | some w => if w.state = .due ∧ s.reached w.windowEnd then .next (s.promptWindowEnd worker).settle else .next s
  | none => .next s

/-- CANCEL_WINDOW_END (R99). -/
def execCancelWindowEnd (worker : Nat) (s : State) : Result :=
  match s.worker? worker with
  | some w => if w.state = .prealert ∧ s.reached w.windowEnd then .next (s.cancelWindowEnd worker).settle else .next s
  | none => .next s

/-- ACK_WINDOW_END_RAISED (R113). -/
def execAckWindowEndRaised (alarm : Nat) (s : State) : Result :=
  match s.alarm? alarm with
  | some r => if r.stage = .raised ∧ s.reached r.windowEnd then .next (s.raisedWindowEnd r).settle else .next s
  | none => .next s

/-- ACK_WINDOW_END_UNANSWERED (R114). -/
def execAckWindowEndUnanswered (alarm : Nat) (s : State) : Result :=
  match s.alarm? alarm with
  | some r =>
    if r.stage = .unanswered ∧ s.reached r.windowEnd then .next (s.unansweredWindowEnd r).settle else .next s
  | none => .next s

/-! ## The receiver -/

/-- BURST_START (R14). -/
def execBurstStart (s : State) : Result := .next (s.modAle Ale.burstStart)

/-- NOISE_RUN (R14). -/
def execNoiseRun (run : Nat) (s : State) : Result := .next (s.modAle (Ale.noiseRun run))

/-- CARRIER_WAIT_CLEARED (R14). -/
def execCarrierWaitCleared (s : State) : Result := .next (s.modAle Ale.carrierCleared)

/-- RUN_CLASSIFIED (R15). -/
def execRunClassified (run : Nat) (s : State) : Result := .next (s.modAle (Ale.runClassified run))

/-- BEYOND_TABLE (R15). -/
def execBeyondTable (run : Nat) (s : State) : Result := .next (s.modAle (Ale.beyond run))

/-- SYNC_MATCHED (R16). -/
def execSyncMatched (window : Half) (s : State) : Result := .next (s.modAle (Ale.syncMatched window))

/-- NO_SYNC (R16). -/
def execNoSync (window : Half) (s : State) : Result := .next (s.modAle (Ale.noSyncFound window))

/-- TRUNCATED (R15, R16). -/
def execTruncated (run : Nat) (s : State) : Result := .next (s.modAle (Ale.truncatedBurst run))

/-- BURST_BAD_LENGTH (R17). -/
def execBurstBadLength (length : Byte) (s : State) : Result := .next (s.modAle (Ale.badLengthBurst length))

/-- FRAME_COMPLETE (R17, R18, R20). -/
def execFrameComplete (bytes : List Byte) (s : State) : Result := .next (s.frameComplete bytes)

end Sys2Proof.Machine
end

