-- ==== Sys2Proof/Machine/Dispatch.lean ====
section
/-! DEFINITION. The meaning of each command: one arm for each row of the opcode table. -/

namespace Sys2Proof.Machine

def exec (i : Instr) (s : State) : Host.Outcome State Fault Refusal :=
  match i with
  | .powerOn strap1 strap2 => Sys2Proof.Machine.execPowerOn strap1 strap2 s
  | .resetAssertion => Sys2Proof.Machine.execResetAssertion s
  | .resetRelease strap1 strap2 => Sys2Proof.Machine.execResetRelease strap1 strap2 s
  | .requestFrameArrived bytes => Sys2Proof.Machine.execRequestFrameArrived bytes s
  | .lengthDiscard length => Sys2Proof.Machine.execLengthDiscard length s
  | .gapDiscard => Sys2Proof.Machine.execGapDiscard s
  | .replySent => Sys2Proof.Machine.execReplySent s
  | .go tag => Sys2Proof.Machine.execGo tag s
  | .restartRadio tag => Sys2Proof.Machine.execRestartRadio tag s
  | .setServiceLevel tag level => Sys2Proof.Machine.execSetServiceLevel tag level s
  | .queryPart tag => Sys2Proof.Machine.execQueryPart tag s
  | .queryLink tag => Sys2Proof.Machine.execQueryLink tag s
  | .setRateTable tag rates => Sys2Proof.Machine.execSetRateTable tag rates s
  | .setSyncWords tag a b => Sys2Proof.Machine.execSetSyncWords tag a b s
  | .setChannelTiming tag v => Sys2Proof.Machine.execSetChannelTiming tag v s
  | .setClassIntervals tag v => Sys2Proof.Machine.execSetClassIntervals tag v s
  | .setStatusKeys tag keys => Sys2Proof.Machine.execSetStatusKeys tag keys s
  | .setEventLevels tag pairs => Sys2Proof.Machine.execSetEventLevels tag pairs s
  | .defineUnit tag v => Sys2Proof.Machine.execDefineUnit tag v s
  | .removeUnit tag addr => Sys2Proof.Machine.execRemoveUnit tag addr s
  | .signOn tag addr => Sys2Proof.Machine.execSignOn tag addr s
  | .signOff tag addr => Sys2Proof.Machine.execSignOff tag addr s
  | .defineWorker tag worker addr => Sys2Proof.Machine.execDefineWorker tag worker addr s
  | .moveWorker tag worker addr => Sys2Proof.Machine.execMoveWorker tag worker addr s
  | .removeWorker tag worker => Sys2Proof.Machine.execRemoveWorker tag worker s
  | .queryUnit tag addr => Sys2Proof.Machine.execQueryUnit tag addr s
  | .queryWorker tag sel => Sys2Proof.Machine.execQueryWorker tag sel s
  | .postOrder tag v => Sys2Proof.Machine.execPostOrder tag v s
  | .recallOrder tag number => Sys2Proof.Machine.execRecallOrder tag number s
  | .relinkOrder tag number permit => Sys2Proof.Machine.execRelinkOrder tag number permit s
  | .queryOrder tag sel => Sys2Proof.Machine.execQueryOrder tag sel s
  | .ackAlarm tag alarm count => Sys2Proof.Machine.execAckAlarm tag alarm count s
  | .resolveAlarm tag alarm => Sys2Proof.Machine.execResolveAlarm tag alarm s
  | .queryAlarms tag alarm => Sys2Proof.Machine.execQueryAlarms tag alarm s
  | .defineDevice tag number kind name position => Sys2Proof.Machine.execDefineDevice tag number kind name position s
  | .setPosition tag device position => Sys2Proof.Machine.execSetPosition tag device position s
  | .queueStep tag device operation unit => Sys2Proof.Machine.execQueueStep tag device operation unit s
  | .confirmStep tag step => Sys2Proof.Machine.execConfirmStep tag step s
  | .abortStep tag step => Sys2Proof.Machine.execAbortStep tag step s
  | .queryDevice tag device => Sys2Proof.Machine.execQueryDevice tag device s
  | .querySteps tag addr => Sys2Proof.Machine.execQuerySteps tag addr s
  | .definePermit tag v => Sys2Proof.Machine.execDefinePermit tag v s
  | .issuePermit tag permit => Sys2Proof.Machine.execIssuePermit tag permit s
  | .withdrawPermit tag permit => Sys2Proof.Machine.execWithdrawPermit tag permit s
  | .suspendPermit tag permit => Sys2Proof.Machine.execSuspendPermit tag permit s
  | .resumePermit tag permit => Sys2Proof.Machine.execResumePermit tag permit s
  | .confirmSurrender tag permit => Sys2Proof.Machine.execConfirmSurrender tag permit s
  | .forceCancel tag permit => Sys2Proof.Machine.execForceCancel tag permit s
  | .restorePermit tag v state => Sys2Proof.Machine.execRestorePermit tag v state s
  | .queryPermit tag permit => Sys2Proof.Machine.execQueryPermit tag permit s
  | .collectEvents tag => Sys2Proof.Machine.execCollectEvents tag s
  | .keyupDelayExpiry => Sys2Proof.Machine.execKeyupDelayExpiry s
  | .frameSendCompletion => Sys2Proof.Machine.execFrameSendCompletion s
  | .frameComplete bytes => Sys2Proof.Machine.execFrameComplete bytes s
  | .beyondTable run => Sys2Proof.Machine.execBeyondTable run s
  | .noSync window => Sys2Proof.Machine.execNoSync window s
  | .truncated run => Sys2Proof.Machine.execTruncated run s
  | .burstBadLength length => Sys2Proof.Machine.execBurstBadLength length s
  | .pollWindowEnd => Sys2Proof.Machine.execPollWindowEnd s
  | .openWindowEnd => Sys2Proof.Machine.execOpenWindowEnd s
  | .workerDeadlineReached worker => Sys2Proof.Machine.execWorkerDeadlineReached worker s
  | .promptWindowEnd worker => Sys2Proof.Machine.execPromptWindowEnd worker s
  | .cancelWindowEnd worker => Sys2Proof.Machine.execCancelWindowEnd worker s
  | .ackWindowEndRaised alarm => Sys2Proof.Machine.execAckWindowEndRaised alarm s
  | .ackWindowEndUnanswered alarm => Sys2Proof.Machine.execAckWindowEndUnanswered alarm s
  | .demandAdmission addr => Sys2Proof.Machine.execDemandAdmission addr s
  | .burstStart => Sys2Proof.Machine.execBurstStart s
  | .noiseRun run => Sys2Proof.Machine.execNoiseRun run s
  | .carrierWaitCleared => Sys2Proof.Machine.execCarrierWaitCleared s
  | .runClassified run => Sys2Proof.Machine.execRunClassified run s
  | .syncMatched window => Sys2Proof.Machine.execSyncMatched window s
  | .startByte => Sys2Proof.Machine.execStartByte s
  | .siteClockTick => Sys2Proof.Machine.execSiteClockTick s

end Sys2Proof.Machine
end

