-- ==== Sys2Proof/Machine/Sampling.lean ====
section
/-! DEFINITION. The receiver's samples of CD and RXD: each is taken on its own, and one that ends a run, completes a bit
or changes the carrier raises the row it stands for (R14 to R17; log 3, log 4). -/

namespace Sys2Proof.Machine

/-- One sample of the input lines: taken only while the receiver takes samples (R3), and the row it raises is carried
out at once. -/
def State.sampleTaken (x : Sample) (s : State) : Host.Outcome State Fault Refusal :=
  if s.ale.receiving then
    match s.ale.takeSample x with
    | (a, none) => .next { s with ale := a }
    | (a, some i) => exec i { s with ale := a }
  else .next s

/-- The next sample that waits on the input lines is taken; with none the part idles. -/
def State.sampleOn (s : State) : Host.Outcome State Fault Refusal :=
  match s.air with
  | [] => .next s
  | x :: rest => State.sampleTaken x { s with air := rest }

end Sys2Proof.Machine
end

