-- ==== Sys2Proof/Safety.lean ====
section
/-! DEFINITION. What the statements are made of: the parts of the state and which of them each command may write, the
condition of an idle line, and the invariants every step keeps. -/

namespace Sys2Proof.Machine

/-! ## Parts of the state -/

/-- The parts of the state a command writes or leaves alone; together they are the whole of it. -/
inductive Part where
  | pending | samples | draws | reset | runState | clock
  | transmitter | receiver | counters | rates | syncs
  | cycle | estimate | doublePoll | timing | service | broadcast
  | roster | contact | hazards | outboxes | statusKeys
  | orders | crews | workers | intervals
  | alarms | calls | siteAlarm
  | devices | positions | tags | pendingSteps | steps
  | permits | deliveries | closing
  | queue | levels | line | lineRate | linkCounters
  deriving DecidableEq, Repr

/-- What the roster fixes of a unit (R21). -/
def UnitRec.identity (u : UnitRec) : Nat × Fleet × List Byte := (u.addr, u.fleet, u.callSign)

/-- What the radio and the crew's keys tell of a unit (R21). -/
def UnitRec.standing (u : UnitRec) : Nat × Contact × Nat × Bool × Nat × Bool × Option Millis :=
  (u.cls, u.contact, u.budget, u.heard, u.lastKey, u.paused, u.lastHeard)

/-- A unit's outbox, its next serial and the demands that wait for it (R48, R49, R54). -/
def UnitRec.traffic (u : UnitRec) : Nat × List Entry × List Demand := (u.nextSerial, u.outbox, u.waiting)

/-- The place of a worker (R84). -/
def WorkerRec.place (w : WorkerRec) : Nat × Nat × Nat := (w.id, w.unit, w.slot)

/-- The condition of a worker (R84). -/
def WorkerRec.condition (w : WorkerRec) :
    WorkerState × Option Millis × Nat × Bool × Option Millis × Option Millis × Option Condition × Bool :=
  (w.state, w.lastCheckin, w.interval, w.stretched, w.deadline, w.windowEnd, w.lastCondition, w.alarmReported)

/-- An alarm record but for its all-call (R105). -/
def AlarmRec.case (r : AlarmRec) :
    (Nat × Nat × Nat × Nat) × CauseSet × Stage × Nat × Millis × Millis × Option Millis × Nat :=
  ((r.id, r.worker, r.unit, r.slot), r.causes, r.stage, r.raises, r.opened, r.lastRaised, r.windowEnd, r.passed)

/-- What DEFINE DEVICE fixes of a device (R120). -/
def DeviceRec.identity (d : DeviceRec) : Nat × DeviceKind × List Byte := (d.number, d.kind, d.name)

/-- A permit record but for what has become of its frames (R139). -/
def PermitRec.authority (p : PermitRec) :
    Nat × Nat × List Nat × List Point × PermitState × Bool × Bool × Option SuspensionCause × Millis × Millis :=
  (p.number, p.holder, p.parties, p.points, p.state, p.control, p.field, p.lastCause, p.defined, p.changed)

/-- The poll scheduler's records of the running cycle (3.1). -/
def Psc.running (p : Psc) :
    (CycleState × BitVec 32 × CycleTiming × List PollEntry × Nat × Option Nat × Nat × Nat)
      × Nat × Millis × Nat × Nat × Option Window × Millis × List Nat × List Nat :=
  ((p.cycleState, p.cycleNumber, p.cycle, p.pollList, p.pollNext, p.probeCandidate, p.probeAllowance, p.probePointer),
    p.estimateInForce, p.cycleBound, p.budgetLeft, p.passedOver, p.window, p.openEnd, p.polled, p.matched)

/-- A part of the state is the same in t as in s. -/
def State.same (s t : State) : Part → Prop
  | .pending => t.pending = s.pending
  | .samples => t.air = s.air
  | .draws => t.freeDraws = s.freeDraws
  | .reset => t.resetAsserted = s.resetAsserted
  | .runState => t.runState = s.runState
  | .clock => t.clock = s.clock
  | .transmitter => t.ale.txState = s.ale.txState ∧ t.ale.txFrame = s.ale.txFrame ∧ t.ale.pttTime = s.ale.pttTime
  | .receiver =>
    t.ale.rxEnabled = s.ale.rxEnabled ∧ t.ale.rxState = s.ale.rxState ∧ t.ale.carrierWait = s.ale.carrierWait
      ∧ t.ale.rxBits = s.ale.rxBits ∧ t.ale.rxWait = s.ale.rxWait ∧ t.ale.lastSample = s.ale.lastSample
  | .counters => t.ale.counters = s.ale.counters
  | .rates => t.ale.rateTable = s.ale.rateTable
  | .syncs => t.ale.syncA = s.ale.syncA ∧ t.ale.syncB = s.ale.syncB
  | .cycle => t.psc.running = s.psc.running
  | .estimate => t.psc.estimate = s.psc.estimate ∧ t.lwm.estimate = s.lwm.estimate
  | .doublePoll => t.psc.doublePoll = s.psc.doublePoll
  | .timing => t.psc.timing = s.psc.timing ∧ t.lwm.grace = s.lwm.grace
  | .service => t.psc.service = s.psc.service
  | .broadcast => t.psc.broadcast = s.psc.broadcast
  | .roster => t.units.map UnitRec.identity = s.units.map UnitRec.identity
  | .contact => t.units.map UnitRec.standing = s.units.map UnitRec.standing
  | .hazards => t.units.map UnitRec.hazard = s.units.map UnitRec.hazard
  | .outboxes => t.units.map UnitRec.traffic = s.units.map UnitRec.traffic
  | .statusKeys => t.keys = s.keys
  | .orders => t.wos = s.wos
  | .crews => t.lwm.workers.map WorkerRec.place = s.lwm.workers.map WorkerRec.place
  | .workers => t.lwm.workers.map WorkerRec.condition = s.lwm.workers.map WorkerRec.condition
  | .intervals => t.lwm.intervals = s.lwm.intervals ∧ t.als.ackWindow = s.als.ackWindow
  | .alarms => t.als.alarms.map AlarmRec.case = s.als.alarms.map AlarmRec.case ∧ t.als.nextId = s.als.nextId
  | .calls =>
    t.als.alarms.map (fun r => (r.allCall, r.sent)) = s.als.alarms.map (fun r => (r.allCall, r.sent))
  | .siteAlarm => t.als.siteAlarm = s.als.siteAlarm
  | .devices => t.swr.devices.map DeviceRec.identity = s.swr.devices.map DeviceRec.identity
  | .positions =>
    t.swr.devices.map (fun d => (d.position, d.source, d.posTime))
      = s.swr.devices.map (fun d => (d.position, d.source, d.posTime))
  | .tags => t.swr.devices.map DeviceRec.tags = s.swr.devices.map DeviceRec.tags
  | .pendingSteps => t.swr.devices.map DeviceRec.pendingStep = s.swr.devices.map DeviceRec.pendingStep
  | .steps => t.swr.steps = s.swr.steps ∧ t.swr.nextStep = s.swr.nextStep
  | .permits => t.pmt.permits.map PermitRec.authority = s.pmt.permits.map PermitRec.authority
  | .deliveries =>
    t.pmt.permits.map (fun p => (p.live, p.recipients)) = s.pmt.permits.map (fun p => (p.live, p.recipients))
  | .closing => t.pmt.closing = s.pmt.closing
  | .queue =>
    t.clp.queue = s.clp.queue ∧ t.clp.attn = s.clp.attn ∧ t.clp.lost = s.clp.lost
      ∧ t.clp.highestLost = s.clp.highestLost
  | .levels => t.clp.levels = s.clp.levels
  | .line => t.clp.inFrame = s.clp.inFrame ∧ t.clp.sending = s.clp.sending ∧ t.clp.order = s.clp.order
  | .lineRate => t.clp.lineRate = s.clp.lineRate
  | .linkCounters =>
    t.clp.lengthDiscards = s.clp.lengthDiscards ∧ t.clp.gapDiscards = s.clp.gapDiscards
      ∧ t.clp.badFrames = s.clp.badFrames ∧ t.clp.busies = s.clp.busies ∧ t.clp.overruns = s.clp.overruns

/-! ## What each command may write -/

/-- A frame enters, is replaced or leaves an outbox (R54, R55, R141, R152). -/
def Part.air : List Part := [.outboxes, .deliveries, .closing]

/-- Workers are recomputed, fall due, enter a state or are prompted, on a new estimate or not (R46, R87 to R96). -/
def Part.crewed : List Part := [.workers, .estimate, .queue] ++ Part.air

/-- The same, with the double-poll set brought up to date after it (R117). -/
def Part.settled : List Part := .doublePoll :: Part.crewed

/-- Orders move, and with them a unit's hazard base (R66, R81). -/
def Part.worked : List Part := [.orders, .hazards] ++ Part.settled

/-- A permit moves, tags its devices, and moves its orders (R141 to R155). -/
def Part.permitted : List Part := [.permits, .tags] ++ Part.worked

/-- A position is recorded or a step ends, which may suspend permits (R123, R128). -/
def Part.switched : List Part := [.positions, .pendingSteps, .steps] ++ Part.permitted

/-- An alarm is opened, raised, acknowledged or closed (R107 to R116). -/
def Part.alarmed : List Part := [.alarms, .calls, .siteAlarm, .broadcast] ++ Part.settled

/-- PSC begins, goes on with or ends a cycle (R39 to R44). -/
def Part.cycled : List Part := [.transmitter, .receiver, .cycle, .outboxes, .broadcast, .calls]

/-- What taking a REPLY or an ALERT may write (R18, R20). -/
def Part.heard : List Part :=
  [.receiver, .counters, .contact, .cycle] ++ Part.alarmed ++ Part.switched

end Sys2Proof.Machine

namespace Sys2Proof

open Sys2Proof.Machine

/-- What carrying out a request may write, beside the line itself. -/
def Request.writes : Request → List Part
  | .go =>
    [.runState, .draws, .contact] ++ Part.cycled ++ Part.worked
  | .restartRadio => .draws :: (Part.cycled ++ Part.settled)
  | .setServiceLevel _ => .service :: Part.settled
  | .setRateTable _ => [.rates, .contact] ++ Part.settled
  | .setSyncWords _ _ => .syncs :: Part.settled
  | .setChannelTiming _ => [.timing, .contact] ++ Part.settled
  | .setClassIntervals _ => [.intervals, .hazards] ++ Part.settled
  | .setStatusKeys _ => .statusKeys :: Part.settled
  | .setEventLevels _ => .levels :: Part.settled
  | .defineUnit _ => [.roster, .contact, .hazards] ++ Part.settled
  | .removeUnit _ => [.roster, .contact, .hazards, .cycle] ++ Part.settled
  | .signOn _ => .contact :: Part.worked
  | .signOff _ => [.contact, .cycle, .steps] ++ Part.settled
  | .defineWorker _ _ | .moveWorker _ _ | .removeWorker _ => .crews :: Part.settled
  | .postOrder _ | .recallOrder _ | .relinkOrder _ _ => Part.worked
  | .ackAlarm _ _ | .resolveAlarm _ => Part.alarmed
  | .defineDevice _ _ _ _ => [.devices, .positions, .tags, .pendingSteps] ++ Part.settled
  | .setPosition _ _ | .abortStep _ => Part.switched
  | .queueStep _ _ _ => [.pendingSteps, .steps] ++ Part.settled
  | .confirmStep _ => .steps :: Part.settled
  | .definePermit _ | .issuePermit _ | .withdrawPermit _ | .suspendPermit _ | .resumePermit _ | .confirmSurrender _
  | .forceCancel _ | .restorePermit _ _ => Part.permitted
  | .queryPart | .queryLink | .queryUnit _ | .queryWorker _ | .queryOrder _ | .queryAlarms _ | .queryDevice _
  | .querySteps _ | .queryPermit _ | .collectEvents | .unknownKind | .badLength => Part.settled

/-- What a command may write; a request is carried out on an idle line and placed on a busy one (R162, R163). -/
def Instr.writes (i : Instr) : List Part :=
  match i.request? with
  | some (_, r) => [.line, .linkCounters] ++ r.writes
  | none =>
    match i with
    | .siteClockTick => [.clock, .draws]
    | .startByte => [.line]
    | .lengthDiscard _ | .gapDiscard => [.line, .linkCounters]
    | .keyupDelayExpiry => [.transmitter]
    | .frameSendCompletion => Part.cycled
    | .pollWindowEnd => [.contact] ++ Part.cycled ++ Part.settled
    | .openWindowEnd => .draws :: Part.cycled
    | .demandAdmission _ => [.broadcast, .calls] ++ Part.air
    | .workerDeadlineReached _ => Part.settled
    | .promptWindowEnd _ | .cancelWindowEnd _ | .ackWindowEndRaised _ | .ackWindowEndUnanswered _ => Part.alarmed
    | .burstStart | .noiseRun _ | .carrierWaitCleared | .runClassified _ | .syncMatched _ => [.receiver]
    | .beyondTable _ | .noSync _ | .truncated _ | .burstBadLength _ => [.receiver, .counters]
    | .frameComplete _ => Part.heard
    | _ => []

/-- The rows that carry no writing of their own: power and RESET write everything, and a frame's arrival and the end
of a reply carry out whatever request then stands at the head of the reply order (R163, R172). -/
def Instr.carries : Instr → Bool
  | .powerOn _ _ | .resetAssertion | .resetRelease _ _ | .requestFrameArrived _ | .replySent => true
  | _ => false

end Sys2Proof

namespace Sys2Proof.Machine

/-! ## The line -/

/-- RESET is released, nothing is being sent and nothing waits: an arrived request is taken at once (R163). -/
def State.lineIdle (s : State) : Prop := s.resetAsserted = false ∧ s.clp.sending = none ∧ s.clp.order = []

/-- The line after a request has been taken: its reply is being sent (R163, R164). -/
def State.replied (kind : Nat) (tag : Byte) (outcome : ReplyOutcome) (body : List Byte) (s : State) : State :=
  s.modClp (fun c => { c with inFrame := false, sending := some ⟨BitVec.ofNat 8 kind, tag, outcome, body⟩ })

/-- The request has been answered: its reply is on the line, and nothing waits behind it (R163, R164). -/
def State.replies (kind : Nat) (tag : Byte) (outcome : ReplyOutcome) (body : List Byte) (s : State) : Prop :=
  s.clp.sending = some ⟨BitVec.ofNat 8 kind, tag, outcome, body⟩ ∧ s.clp.order = [] ∧ s.clp.inFrame = false

/-- Between s and t an event was raised, at a level of at least the floor when it is reported at all: its entry stands
in the queue, unless the queue has lost an entry since (R166, R167). -/
def State.reported (floor : Nat) (k : EventKind) (subject : Subject) (detail : List Byte) (s t : State) : Prop :=
  s.clp.eventLevel k floor ≠ 0 →
    ⟨k, s.clp.eventLevel k floor, s.now, subject, detail⟩ ∈ t.clp.queue ∨ s.clp.lost < t.clp.lost
      ∨ t.clp.lost = Config.counterMax

/-- A source record's frame stands with a unit, as an entry of its outbox or a demand that waits for it, with this
content, class and emergency mark (R48, R54). -/
def State.holds (a : Nat) (src : Source) (c : Content) (cls : Nat) (emergency : Bool) (s : State) : Prop :=
  ∃ u ∈ s.units, u.addr = a ∧
    ((∃ e ∈ u.outbox, e.source = src ∧ e.content = c ∧ e.cls = cls ∧ e.emergency = emergency)
      ∨ ∃ d ∈ u.waiting, d.source = src ∧ d.content = c ∧ d.cls = cls ∧ d.emergency = emergency)

/-- No unit of this address holds an entry or a demand of a source record (R55). -/
def State.holdsNone (a : Nat) (src : Source) (s : State) : Prop :=
  ∀ u ∈ s.units, u.addr = a → (∀ e ∈ u.outbox, e.source ≠ src) ∧ ∀ d ∈ u.waiting, d.source ≠ src

/-- A value stands within limits. -/
def within (lo hi v : Nat) : Prop := lo ≤ v ∧ v ≤ hi

/-! ## The checks on a permit's definition -/

/-- The position a position code of a point names: 1 OPEN, 2 CLOSED (R181). -/
def pointOf (p : PointArg) : Point := ⟨p.device, if p.position = 1 then .opened else .closed⟩

/-- Check 1 of R140: the numbers in range, at most 3 parties and 1 to 8 points, no unit and no device twice. -/
def PermitFields (v : PermitArg) : Prop :=
  within 1 65535 v.number ∧ within 1 239 v.holder ∧ v.parties.length ≤ 3 ∧ (∀ a ∈ v.parties, within 1 239 a)
    ∧ (v.holder :: v.parties).Nodup ∧ within 1 8 v.points.length
    ∧ (∀ p ∈ v.points, within 1 65535 p.device ∧ within 1 2 p.position) ∧ (v.points.map PointArg.device).Nodup

/-- The checks of R140 behind the first: a free number and record, the records it names, a HOME holder, and every
device at the position its kind is held in, with one isolator at least. -/
def State.definable (v : PermitArg) (s : State) : Prop :=
  s.permit? v.number = none ∧ s.pmt.permits.length < Config.maxPermits
    ∧ (∀ a ∈ v.parties, (s.unit? a).isSome) ∧ (∃ u, s.unit? v.holder = some u ∧ u.fleet = .home)
    ∧ (∀ p ∈ v.points, ∃ d, s.device? p.device = some d ∧ (pointOf p).position = d.kind.held)
    ∧ ∃ p ∈ v.points, ∃ d, s.device? p.device = some d ∧ d.kind = .isolator

/-- The checks of R142 on the points: every device at its point's position, with no pending step and room for a tag. -/
def State.issuable (points : List Point) (s : State) : Prop :=
  ∀ p ∈ points, ∃ d, s.device? p.device = some d ∧ d.position = p.position ∧ d.pendingStep = none
    ∧ d.tags.length < Config.maxTags

/-- The devices of s, those of the points tagged with a permit now (R122). -/
def State.tagged (n : Nat) (points : List Point) (s : State) : List DeviceRec :=
  s.swr.devices.map (fun d =>
    if d.number ∈ points.map Point.device ∧ n ∉ d.tags.map Tag.permit then { d with tags := d.tags ++ [⟨n, s.now⟩] }
    else d)

/-- The devices of s, those of the points without their tag of a permit (R122). -/
def State.untagged (n : Nat) (points : List Point) (s : State) : List DeviceRec :=
  s.swr.devices.map (fun d =>
    if d.number ∈ points.map Point.device then { d with tags := d.tags.filter (fun t => t.permit != n) } else d)

/-- The frame every member of a permit is to hold, unless the run state is LOADING (R141). -/
def State.allHold (p : PermitRec) (c : Nat → Content) (cls : Nat) (s : State) : Prop :=
  s.runState = .operating → ∀ a ∈ p.members, (s.unit? a).isSome → s.holds a (.permit p.number) (c a) cls false

/-! ## Invariants -/

/-- The report queue: at most 48 entries, ATTN with them, levels 1 to 3, and the figures of what was lost
(R166, R167, R168, R170). -/
def Clp.queueOk (c : Clp) : Prop :=
  c.queue.length ≤ Config.maxQueue ∧ c.attn = !c.queue.isEmpty ∧ (∀ e ∈ c.queue, 1 ≤ e.level ∧ e.level ≤ 3)
    ∧ c.lost ≤ Config.counterMax ∧ c.highestLost ≤ 3 ∧ c.levels.length = 42 ∧ ∀ l ∈ c.levels, l ≤ 3

/-- The reply order: at most 4 requests and 4 marks, and none waits behind an idle transmitter (R162, R163). -/
def Clp.orderOk (c : Clp) : Prop :=
  c.requests ≤ Config.maxRequests ∧ c.marks ≤ Config.maxMarks ∧ (c.sending = none → c.order = [])

/-- The double-poll set holds a unit exactly when R117 calls for it, for every unit of the roster or the set. -/
def State.doublePollOk (s : State) : Prop :=
  ∀ a, (a ∈ s.units.map UnitRec.addr ∨ a ∈ s.psc.doublePoll) → (a ∈ s.psc.doublePoll ↔ s.wantsDouble a = true)

/-- While the run state is LOADING the radio is silent, no unit has been heard or lost, no worker is on watch and no
alarm is open (R1, R38, R173). -/
def State.loadingOk (s : State) : Prop :=
  s.runState = .loading →
    s.ale.rxEnabled = false ∧ s.ale.txState = .idle ∧ s.psc.cycleState = .stopped ∧ s.psc.window = none
      ∧ (∀ u ∈ s.units, u.contact = .neverHeard ∨ u.contact = .signedOff)
      ∧ (∀ w ∈ s.lwm.workers, w.state = .inactive) ∧ s.als.alarms = []

/-- The cycle estimate is the one R46 computes, LWM holds it with the grace, and no two units have one address
(R46, R88, R21, R173). -/
def State.estimateOk (s : State) : Prop :=
  s.loadingOk ∧ (s.units.map UnitRec.addr).Nodup
    ∧ s.psc.estimate = s.estimateNow ∧ s.lwm.estimate = s.psc.estimate ∧ s.lwm.grace = s.psc.timing.g

/-- Every worker's interval is the one R87 gives, a worker in OK has the deadline of R89, no other worker has one, and
a window end stands in DUE and PREALERT only (R84, R87, R89). -/
def State.deadlinesOk (s : State) : Prop :=
  (s.lwm.workers.map WorkerRec.id).Nodup ∧ (s.units.map UnitRec.addr).Nodup
    ∧ ∀ w ∈ s.lwm.workers,
        (s.unit? w.unit).isSome ∧ w.interval = s.lwm.effective (s.hazardOf w.unit)
          ∧ w.stretched = s.lwm.stretches (s.hazardOf w.unit)
          ∧ (w.state = .ok → ∃ t, w.lastCheckin = some t ∧ w.deadline = some (t + 1000 * w.interval))
          ∧ (w.state ≠ .ok → w.deadline = none)
          ∧ (w.windowEnd.isSome ↔ (w.state = .due ∨ w.state = .prealert))

/-- A worker is in ALARM exactly when it has an open alarm, SITE ALARM is asserted exactly while an open alarm is
UNANSWERED, and what keeps that so: no worker, id or alarm twice, the
next alarm id free, every alarm with its worker, and only INACTIVE workers in LOADING and on a unit signed off
(R84, R90, R105, R106, R107, R116). -/
def State.alarmsOk (s : State) : Prop :=
  s.loadingOk ∧ (s.lwm.workers.map WorkerRec.id).Nodup ∧ s.lwm.workers.length ≤ Config.maxWorkers
    ∧ (s.units.map UnitRec.addr).Nodup
    ∧ (s.als.alarms.map AlarmRec.id).Nodup ∧ (s.als.alarms.map AlarmRec.worker).Nodup
    ∧ (1 ≤ s.als.nextId ∧ s.als.nextId ≤ 65535 ∧ s.als.nextId ∉ s.als.alarms.map AlarmRec.id)
    ∧ (∀ w ∈ s.lwm.workers, w.state = .alarm ↔ w.id ∈ s.als.alarms.map AlarmRec.worker)
    ∧ (s.als.siteAlarm = true ↔ ∃ r ∈ s.als.alarms, r.stage = .unanswered)
    ∧ (∀ r ∈ s.als.alarms, ∃ w ∈ s.lwm.workers, w.place = (r.worker, r.unit, r.slot))
    ∧ ∀ w ∈ s.lwm.workers, ∃ u ∈ s.units, u.addr = w.unit ∧ (u.contact = .signedOff → w.state = .inactive)

/-- A permit past DRAFT has its tag on every device it names; one that control has confirmed has every device at the
position it requires; an ACTIVE one has been confirmed by both sides; and a device is tagged by nothing else
(R122, R123, R139, R140, R146, R147). -/
def State.permitsOk (s : State) : Prop :=
  (s.pmt.permits.map PermitRec.number).Nodup ∧ (s.swr.devices.map DeviceRec.number).Nodup
    ∧ (∀ p ∈ s.pmt.permits,
        (p.points.map Point.device).Nodup
          ∧ (∀ q ∈ p.points, ∃ d ∈ s.swr.devices, d.number = q.device ∧ q.position = d.kind.held
              ∧ (p.state ≠ .draft → p.number ∈ d.tags.map Tag.permit)
              ∧ (p.control = true → d.position = q.position))
          ∧ (p.control = true → p.state ≠ .draft)
          ∧ (p.state = .active → p.control = true ∧ p.field = true))
    ∧ ∀ d ∈ s.swr.devices,
        (d.tags.map Tag.permit).Nodup ∧ d.tags.length ≤ Config.maxTags
          ∧ ∀ n ∈ d.tags.map Tag.permit, ∃ p ∈ s.pmt.permits,
              p.number = n ∧ p.state ≠ .draft ∧ d.number ∈ p.points.map Point.device

/-- The handles and step ids held are distinct, the next of each is free and in its range, and the stores are within
their capacities (R62, R125). -/
def State.numbersOk (s : State) : Prop :=
  (s.wos.orders.map OrderRec.handle).Nodup ∧ (s.wos.orders.map OrderRec.number).Nodup
    ∧ s.wos.orders.length ≤ Config.maxOrders
    ∧ (1 ≤ s.wos.nextHandle ∧ s.wos.nextHandle ≤ 65535 ∧ s.wos.nextHandle ∉ s.wos.orders.map OrderRec.handle)
    ∧ (s.swr.steps.map StepRec.id).Nodup ∧ s.swr.steps.length ≤ Config.maxSteps
    ∧ (1 ≤ s.swr.nextStep ∧ s.swr.nextStep ≤ 255 ∧ s.swr.nextStep ∉ s.swr.steps.map StepRec.id)

/-- The source has a record behind it: it is no CLOSED copy (R48). -/
def Source.recorded : Source → Bool
  | .closedCopy _ => false
  | _ => true

/-- An outbox: at most 4 entries, no serial twice, the next serial held by none and in its range, retries from 1 to 8,
no record with two entries or demands, and no CLOSED copy among the demands (R48, R49, R54, R152). -/
def UnitRec.outboxOk (u : UnitRec) : Prop :=
  (((u.outbox.map Entry.source) ++ (u.waiting.map Demand.source)).filter Source.recorded).Nodup
    ∧ u.outbox.length ≤ Config.maxOutbox ∧ (u.outbox.map Entry.serial).Nodup ∧ u.nextSerial < 256
    ∧ u.nextSerial ∉ u.outbox.map Entry.serial ∧ (∀ e ∈ u.outbox, 1 ≤ e.retries ∧ e.retries ≤ 8)
    ∧ (u.contact = .signedOff → u.outbox = []) ∧ ∀ d ∈ u.waiting, d.source.recorded = true

/-- Every unit's outbox and the broadcast outbox, and the retry budget entries are given (R48, R49, R60). -/
def State.outboxesOk (s : State) : Prop :=
  (s.units.map UnitRec.addr).Nodup ∧ (∀ u ∈ s.units, u.outboxOk) ∧ s.psc.broadcast.length ≤ Config.maxBroadcast
    ∧ 1 ≤ s.psc.timing.r ∧ s.psc.timing.r ≤ 8

/-- Every value that is clamped when it is set stands within its range, and so does every hazard base
(R60, R81, R86). -/
def State.rangesOk (s : State) : Prop :=
  (within 0 250 s.psc.timing.k ∧ within 10 200 s.psc.timing.t ∧ within 0 30000 s.psc.timing.b
      ∧ within 0 60000 s.psc.timing.g ∧ within 2 15 s.psc.timing.n ∧ within 1 8 s.psc.timing.r)
    ∧ (within 20 3600 s.lwm.intervals.general ∧ within 20 3600 s.lwm.intervals.elevated
      ∧ within 20 3600 s.lwm.intervals.isolated ∧ within 20 3600 s.lwm.intervals.live
      ∧ within 30 600 s.lwm.intervals.prompt ∧ within 10 120 s.lwm.intervals.cancel)
    ∧ within 30 600 s.als.ackWindow ∧ ∀ u ∈ s.units, within 20 3600 u.hazard

/-- Every unit's hazard base is the one its orders give, and every order belongs to a defined unit (R62, R81). -/
def State.hazardsOk (s : State) : Prop :=
  s.numbersOk ∧ (s.units.map UnitRec.addr).Nodup ∧ (∀ o ∈ s.wos.orders, (s.unit? o.unit).isSome)
    ∧ ∀ u ∈ s.units, u.hazard = s.hazardNow u.addr

/-- A PROCEED stands only for an order that is PROCEEDING on the unit that holds the frame (R66, R72). -/
def State.proceedsOk (s : State) : Prop :=
  ∀ u ∈ s.units, ∀ src h,
    ((src, Content.orderNotice h .proceed) ∈ u.outbox.map (fun e => (e.source, e.content))
      ∨ (src, Content.orderNotice h .proceed) ∈ u.waiting.map (fun d => (d.source, d.content))) →
    src = .order h ∧ ∃ o ∈ s.wos.orders, o.handle = h ∧ o.unit = u.addr ∧ o.state = .proceeding

/-- An order linked to a permit is PROCEEDING or WORKING only while that permit is ACTIVE and names the order's unit;
and what keeps that so: a link names the unit in every state, no linked order stands ON_SITE, and a PROCEED stands for
a PROCEEDING order only (R63, R64, R71, R78). -/
def State.gateOk (s : State) : Prop :=
  s.outboxesOk ∧ s.numbersOk ∧ (s.pmt.permits.map PermitRec.number).Nodup ∧ s.proceedsOk
    ∧ (∀ o ∈ s.wos.orders, o.state = .proceeding → o.stopOut = false)
    ∧ ∀ o ∈ s.wos.orders, ∀ n, o.permit = some n →
        o.state ≠ .onSite ∧ ∃ p ∈ s.pmt.permits, p.number = n ∧ o.unit ∈ p.members
          ∧ (o.state = .proceeding ∨ o.state = .working → p.state = .active)

end Sys2Proof.Machine
end

