-- ==== Sys2Proof/Certificates/Slice0/Obligations.lean ====
section
/-! DEFINITION. The statements for the provers. -/

open Sys2Proof Sys2Proof.Machine

/-! ## The step, power, RESET and the clock -/

/-- A step takes the command at the front of the queue and is exec of it on the rest. On an empty queue the part idles,
or takes the next sample of its input lines, which is lost on a receiver that is disabled or keyed (the model's choice,
log 3). -/
def Obligations.StepTakesFrontCommand : Prop :=
  (∀ (c : Instr) (rest : List Instr) (s : State), step { s with pending := c :: rest } = exec c { s with pending := rest })
    ∧ (∀ s : State, s.pending = [] → s.air = [] → step s = .next s)
    ∧ ∀ (x : Sample) (rest : List Sample) (s : State), s.pending = [] → s.air = x :: rest →
      s.ale.rxEnabled = false ∨ s.ale.txState ≠ .idle → step s = .next { s with air := rest }

/-- The values the manual gives the records after power-on and after RESET. -/
def Obligations.ResetCondition : Prop :=
  let s := State.reset
  (s.runState = .loading ∧ s.clock = 0 ∧ s.pending = [])
    ∧ (s.ale.txState = .idle ∧ s.ale.rxEnabled = false ∧ s.ale.rxState = .hunt
      ∧ s.ale.counters = ⟨0, 0, 0, 0, 0, 0, 0, 0⟩ ∧ s.ale.rateTable = [] ∧ s.ale.syncA = none ∧ s.ale.syncB = none)
    ∧ (s.psc.cycleState = .stopped ∧ s.psc.cycleNumber = 0 ∧ s.psc.pollList = [] ∧ s.psc.probeCandidate = none
      ∧ s.psc.probePointer = 0 ∧ s.psc.timing = ⟨40, 30, 4000, 10000, 4, 4⟩ ∧ s.psc.service = .full
      ∧ s.psc.doublePoll = [] ∧ s.psc.broadcast = [] ∧ s.psc.passedOver = 0 ∧ s.psc.estimate = 4000)
    ∧ (s.units = [] ∧ s.keys = [] ∧ s.wos.orders = [] ∧ s.wos.nextHandle = 1 ∧ s.lwm.workers = []
      ∧ s.lwm.intervals = ⟨900, 300, 300, 120, 120, 30⟩ ∧ s.lwm.estimate = 4000 ∧ s.lwm.grace = 10000)
    ∧ (s.als.alarms = [] ∧ s.als.nextId = 1 ∧ s.als.ackWindow = 60 ∧ s.als.siteAlarm = false
      ∧ s.swr.devices = [] ∧ s.swr.steps = [] ∧ s.swr.nextStep = 1 ∧ s.pmt.permits = [] ∧ s.pmt.closing = [])
    ∧ (s.clp.order = [] ∧ s.clp.sending = none ∧ s.clp.inFrame = false ∧ s.clp.queue = [] ∧ s.clp.attn = false
      ∧ s.clp.lost = 0 ∧ s.clp.highestLost = 0 ∧ s.clp.lengthDiscards = 0 ∧ s.clp.gapDiscards = 0 ∧ s.clp.badFrames = 0
      ∧ s.clp.busies = 0 ∧ s.clp.overruns = 0)

/-- The invariants hold in the part as it stands after reset. -/
def Obligations.ResetMeetsInvariants : Prop :=
  let s := State.reset
  (s.clp.queueOk ∧ s.clp.orderOk ∧ s.doublePollOk ∧ s.loadingOk ∧ s.estimateOk ∧ s.deadlinesOk)
    ∧ s.alarmsOk ∧ s.permitsOk ∧ s.numbersOk ∧ s.outboxesOk ∧ s.rangesOk ∧ s.hazardsOk ∧ s.gateOk

/-- POWER_ON and RESET_RELEASE leave the reset condition with the line rate the straps select; RESET_ASSERTION holds it
with RESET asserted. The queue of waiting commands, the samples to come and the free draws are the model's own and stay;
the line rate held while RESET is asserted is the model's choice (log 7), and so is that a release without RESET
asserted changes nothing (log 1). -/
def Obligations.PowerAndResetRows : Prop :=
  ∀ (x y : Bool) (s : State),
    exec (.powerOn x y) s =
        .next { State.reset with
          pending := s.pending, air := s.air, freeDraws := s.freeDraws, clp.lineRate := strapRate x y }
      ∧ exec .resetAssertion s =
        .next { State.reset with
          pending := s.pending, air := s.air, freeDraws := s.freeDraws, resetAsserted := true
          clp.lineRate := s.clp.lineRate }
      ∧ (s.resetAsserted = true → exec (.resetRelease x y) s =
        .next { State.reset with
          pending := s.pending, air := s.air, freeDraws := s.freeDraws, clp.lineRate := strapRate x y })
      ∧ (s.resetAsserted = false → exec (.resetRelease x y) s = .next s)

/-- The site clock advances by one at a tick and is held while RESET is asserted; what follows its last 48-bit value is
the model's free value (log 6). -/
def Obligations.SiteClockTick : Prop :=
  ∀ s : State,
    (s.resetAsserted = false → s.clock ≠ BitVec.allOnes 48 →
        exec .siteClockTick s = .next { s with clock := s.clock + 1 })
      ∧ (s.resetAsserted = true → exec .siteClockTick s = .next s)
      ∧ (s.resetAsserted = false → s.clock = BitVec.allOnes 48 →
        exec .siteClockTick s =
          .next { s with clock := Config.freeClock s.freeDraws, freeDraws := s.freeDraws + 1 })

/-! ## The controller link -/

/-- A start byte begins a frame; a length outside 2 to 1,022 or a gap discards it and is counted. Outside a frame, and
while RESET is asserted, nothing changes (log 1). -/
def Obligations.SerialReceiverRows : Prop :=
  ∀ (n : Half) (s : State),
    (s.resetAsserted = false → exec .startByte s = .next { s with clp.inFrame := true })
      ∧ (s.resetAsserted = false → s.clp.inFrame = true → n.toNat < 2 ∨ 1022 < n.toNat →
        exec (.lengthDiscard n) s =
          .next { s with clp.inFrame := false, clp.lengthDiscards := min 65535 (s.clp.lengthDiscards + 1) })
      ∧ (s.resetAsserted = false → s.clp.inFrame = true →
        exec .gapDiscard s =
          .next { s with clp.inFrame := false, clp.gapDiscards := min 65535 (s.clp.gapDiscards + 1) })
      ∧ (s.resetAsserted = true →
        exec .startByte s = .next s ∧ exec (.lengthDiscard n) s = .next s ∧ exec .gapDiscard s = .next s)
      ∧ (s.clp.inFrame = false ∨ within 2 1022 n.toNat → exec (.lengthDiscard n) s = .next s)
      ∧ (s.clp.inFrame = false → exec .gapDiscard s = .next s)

/-- What an arrival adds to the reply order and to the overrun counter while a reply is on the line: the table of
R162. -/
def Obligations.ArrivalsArePlaced : Prop :=
  (∀ (i : Instr) (tag : Byte) (r : Request) (s : State),
      i.request? = some (tag, r) → s.resetAsserted = false → s.clp.sending.isSome = true →
      exec i s = .next { s with
        clp.inFrame := false
        clp.order :=
          if s.clp.requests < 4 then s.clp.order ++ [.request (BitVec.ofNat 8 r.kindCode) tag r]
          else if s.clp.marks < 4 then s.clp.order ++ [.mark (BitVec.ofNat 8 r.kindCode) tag .busy]
          else s.clp.order
        clp.overruns :=
          if s.clp.requests < 4 ∨ s.clp.marks < 4 then s.clp.overruns else min 65535 (s.clp.overruns + 1) })
    ∧ (∀ (bytes : List Byte) (p : SerialParts) (s : State),
      serialParts bytes = some p → s.resetAsserted = false → s.clp.inFrame = true → s.clp.sending.isSome = true →
      p.checked = true →
      exec (.requestFrameArrived bytes) s = .next { s with
        clp.inFrame := false
        clp.order :=
          if s.clp.requests < 4 then s.clp.order ++ [.request p.kind p.tag (decodeRequest p.kind p.body)]
          else if s.clp.marks < 4 then s.clp.order ++ [.mark p.kind p.tag .busy]
          else s.clp.order
        clp.overruns :=
          if s.clp.requests < 4 ∨ s.clp.marks < 4 then s.clp.overruns else min 65535 (s.clp.overruns + 1) })
    ∧ ∀ (bytes : List Byte) (p : SerialParts) (s : State),
      serialParts bytes = some p → s.resetAsserted = false → s.clp.inFrame = true → s.clp.sending.isSome = true →
      p.checked = false →
      exec (.requestFrameArrived bytes) s = .next { s with
        clp.inFrame := false
        clp.order := if s.clp.marks < 4 then s.clp.order ++ [.mark p.kind p.tag .badFrame] else s.clp.order
        clp.overruns := if s.clp.marks < 4 then s.clp.overruns else min 65535 (s.clp.overruns + 1) }

/-- When a reply has been sent the head of the reply order is served: a mark by its reply, a request by being taken,
and its reply carries its kind and tag. A refusal is counted when its reply begins (log 19). With no reply on the line nothing
changes (the model's choice, log 1). -/
def Obligations.RepliesLeaveInOrder : Prop :=
  (∀ s : State, s.clp.sending = none → exec .replySent s = .next s)
    ∧ (∀ s : State, s.clp.sending.isSome = true → s.clp.order = [] →
      exec .replySent s = .next { s with clp.sending := none })
    ∧ (∀ (k t : Byte) (rest : List Place) (s : State), s.clp.sending.isSome = true →
      (s.clp.order = .mark k t .busy :: rest →
        exec .replySent s = .next { s with
          clp.order := rest, clp.sending := some ⟨k, t, .busy, []⟩, clp.busies := min 65535 (s.clp.busies + 1) })
        ∧ (s.clp.order = .mark k t .badFrame :: rest →
          exec .replySent s = .next { s with
            clp.order := rest, clp.sending := some ⟨k, t, .badFrame, []⟩
            clp.badFrames := min 65535 (s.clp.badFrames + 1) }))
    ∧ (∀ (k t : Byte) (r : Request) (rest : List Place) (s : State), s.clp.sending.isSome = true →
      s.clp.order = .request k t r :: rest →
      ∃ (u : State) (outcome : ReplyOutcome) (body : List Byte),
        ({ s with clp.order := rest, clp.sending := none } : State).answer r = (u, outcome, body)
          ∧ exec .replySent s = .next { u.settle with clp.sending := some ⟨k, t, outcome, body⟩ }
          ∧ u.settle.clp.order = rest)
    ∧ ∀ (bytes : List Byte) (p : SerialParts) (s : State),
      serialParts bytes = some p → p.checked = false → s.lineIdle → s.clp.inFrame = true →
      exec (.requestFrameArrived bytes) s = .next { s with
        clp.inFrame := false, clp.sending := some ⟨p.kind, p.tag, .badFrame, []⟩
        clp.badFrames := min 65535 (s.clp.badFrames + 1) }

/-- The body of every well-formed request decodes to that request. -/
def Obligations.RequestBodiesDecode : Prop :=
  ∀ r : Request, r.wellFormed = true → decodeRequest (BitVec.ofNat 8 r.kindCode) r.body = r

/-- The frame of every well-formed request, arriving where a start byte has been taken, is that request's row: the model
takes a request row for the arrival of its frame (log 2). -/
def Obligations.RequestFrameIsItsRow : Prop :=
  ∀ (i : Instr) (tag : Byte) (r : Request) (s : State),
    i.request? = some (tag, r) → r.wellFormed = true → s.resetAsserted = false → s.clp.inFrame = true →
    exec (.requestFrameArrived (requestFrame tag r)) s = exec i s

/-- The report queue keeps 48 entries: a full one gives up its oldest entry of the lowest level if that is lower than
the new entry's, and otherwise the new entry. -/
def Obligations.QueueKeepsTheHighest : Prop :=
  ∀ (e : EventEntry) (c : Clp), within 1 3 e.level →
    (c.queue.length < 48 → c.enqueue e = { c with queue := c.queue ++ [e], attn := true })
      ∧ (48 ≤ c.queue.length → (∃ x ∈ c.queue, x.level < e.level) →
        ∃ before x after, c.queue = before ++ x :: after ∧ (∀ y ∈ c.queue, x.level ≤ y.level)
          ∧ (∀ y ∈ before, y.level ≠ x.level)
          ∧ c.enqueue e = { c with
              queue := before ++ after ++ [e], attn := true, lost := min 65535 (c.lost + 1)
              highestLost := max c.highestLost x.level })
      ∧ (48 ≤ c.queue.length → (∀ x ∈ c.queue, e.level ≤ x.level) →
        c.enqueue e = { c with lost := min 65535 (c.lost + 1), highestLost := max c.highestLost e.level })
      ∧ (c.queue.length ≤ 48 → (c.enqueue e).queue.length ≤ 48)

/-- COLLECT EVENTS returns and removes up to 8 entries, the highest level first and within a level the oldest, and
clears the figures of what was lost. -/
def Obligations.CollectEvents : Prop :=
  ∀ (tag : Byte) (s : State), s.lineIdle → s.doublePollOk → (∀ e ∈ s.clp.queue, within 1 3 e.level) →
    ∃ taken left : List EventEntry,
      taken = (s.clp.queue.filter (fun e => e.level == 3) ++ s.clp.queue.filter (fun e => e.level == 2)
          ++ s.clp.queue.filter (fun e => e.level == 1)).take 8
        ∧ (taken ++ left).Perm s.clp.queue ∧ left.Sublist s.clp.queue
        ∧ exec (.collectEvents tag) s =
          .next (({ s with
            clp.queue := left, clp.attn := !left.isEmpty, clp.lost := 0, clp.highestLost := 0 } : State).replied
              0x70 tag .ok (u8 taken.length ++ taken.flatMap EventEntry.bytes ++ u8 left.length ++ u16 s.clp.lost
                ++ u8 s.clp.highestLost))

/-- SET EVENT LEVELS sets every level given, or refuses the list and sets none; and the table of kinds. -/
def Obligations.SetEventLevels : Prop :=
  (∀ (tag : Byte) (pairs : List (Nat × Nat)) (s : State), s.lineIdle → s.doublePollOk → s.clp.levels.length = 42 →
      let sound := within 1 64 pairs.length ∧ (∀ p ∈ pairs, within 1 42 p.1 ∧ p.2 ≤ 3)
        ∧ (∀ p ∈ pairs, ∀ k : EventKind, k.code = p.1 → k.fixed = true → p.2 = 3) ∧ (pairs.map Prod.fst).Nodup
      (sound → ∃ levels : List Nat, levels.length = 42 ∧ (∀ p ∈ pairs, levels[p.1 - 1]? = some p.2)
          ∧ (∀ n, n + 1 ∉ pairs.map Prod.fst → levels[n]? = s.clp.levels[n]?)
          ∧ exec (.setEventLevels tag pairs) s =
            .next (({ s with clp.levels := levels } : State).replied 0x15 tag .ok (u8 42 ++ levels.flatMap u8)))
        ∧ (¬ sound → ∃ body, exec (.setEventLevels tag pairs) s = .next (s.replied 0x15 tag .outOfRange body)))
    ∧ State.reset.clp.levels = [1, 2, 1, 1, 1, 1, 1, 2, 2, 2, 2, 1, 1, 1, 2, 3, 1, 1, 1, 2, 2, 2, 2, 2, 2, 3, 3, 3]
        ++ [1, 2, 3, 2, 2, 2, 2, 2, 2, 2, 2, 2, 3, 3]
    ∧ EventKind.all.map EventKind.code = List.range' 1 42 ∧ (EventKind.all.filter EventKind.fixed).length = 7

/-- The link's records stay within their bounds: at most 48 events at levels 1 to 3 with ATTN, 4 requests and 4 marks,
and no frame waiting behind an idle transmitter. -/
def Obligations.LinkKept : Prop :=
  ∀ s t : State, s.clp.queueOk → s.clp.orderOk → step s = .next t → t.clp.queueOk ∧ t.clp.orderOk

/-- The run state: LOADING until an accepted GO, OPERATING until power-on or RESET, and the requests each refuses. -/
def Obligations.RunStateGates : Prop :=
  (State.reset.runState = .loading
      ∧ ∀ (x y : Bool) (s t : State), exec (.powerOn x y) s = .next t ∨ exec .resetAssertion s = .next t
        ∨ (s.resetAsserted = true ∧ exec (.resetRelease x y) s = .next t) → t.runState = .loading)
    ∧ (∀ (i : Instr) (s t : State), exec i s = .next t → s.runState = .operating →
      t.runState = .operating ∨ (∃ x y, i = .powerOn x y) ∨ i = .resetAssertion ∨ ∃ x y, i = .resetRelease x y)
    ∧ (∀ (i : Instr) (s t : State), exec i s = .next t → s.clp.orderOk → s.runState = .loading →
      t.runState = .operating → t.clp.sending.map (·.outcome) = some .ok
        ∧ ((∃ tag, i = .go tag) ∨ (i = .replySent ∧ ∃ k g rest, s.clp.order = .request k g .go :: rest)
          ∨ ∃ bytes b, i = .requestFrameArrived bytes ∧ serialParts bytes = some b
            ∧ decodeRequest b.kind b.body = .go))
    ∧ (∀ (tag : Byte) (s t : State), s.lineIdle → s.runState = .loading → exec (.go tag) s = .next t →
      (t.runState = .operating ↔ t.clp.sending.map (·.outcome) = some .ok))
    ∧ (∀ (tag : Byte) (s : State), s.lineIdle → s.doublePollOk → s.runState = .loading →
      (exec (.restartRadio tag) s = .next (s.replied 0x02 tag .notOperating [])
        ∧ ∃ rest, exec (.queryPart tag) s = .next (s.replied 0x04 tag .ok (u8 1 ++ rest)))
      ∧ ∀ a b c : Nat, exec (.ackAlarm tag a b) s = .next (s.replied 0x40 tag .notOperating [])
        ∧ exec (.resolveAlarm tag a) s = .next (s.replied 0x41 tag .notOperating [])
        ∧ exec (.queueStep tag a b c) s = .next (s.replied 0x52 tag .notOperating [])
        ∧ exec (.confirmStep tag a) s = .next (s.replied 0x53 tag .notOperating []))
    ∧ (∀ (tag : Byte) (s : State), s.lineIdle → s.doublePollOk → s.runState = .operating →
      (exec (.go tag) s = .next (s.replied 0x01 tag .notLoading [])
        ∧ (∃ rest, exec (.queryPart tag) s = .next (s.replied 0x04 tag .ok (u8 2 ++ rest)))
        ∧ (∀ rates, exec (.setRateTable tag rates) s = .next (s.replied 0x10 tag .notLoading []))
        ∧ (∀ a b, exec (.setSyncWords tag a b) s = .next (s.replied 0x11 tag .notLoading []))
        ∧ (∀ v st, exec (.restorePermit tag v st) s = .next (s.replied 0x67 tag .notLoading [])))
      ∧ ∀ v : OrderArg, within 1 239 v.unit → within 1 3 v.priority → within 1 4 v.hazard →
        within 1 240 v.text.length → within 2 5 v.start →
        exec (.postOrder tag v) s = .next (s.replied 0x30 tag .notLoading []))
    ∧ ∀ (i : Instr) (tag : Byte) (r : Request) (s t : State), i.request? = some (tag, r) → s.lineIdle →
      exec i s = .next t →
      (t.clp.sending.map (·.outcome) = some .notOperating →
        s.runState = .loading ∧
          match r with
          | .restartRadio | .ackAlarm _ _ | .resolveAlarm _ | .queueStep _ _ _ | .confirmStep _ => True
          | _ => False)
      ∧ (t.clp.sending.map (·.outcome) = some .notLoading →
        s.runState = .operating ∧
          match r with
          | .go | .setRateTable _ | .setSyncWords _ _ | .restorePermit _ _ => True
          | .postOrder v => within 2 5 v.start
          | _ => False)

/-! ## The requests that configure the part -/

/-- SET SERVICE LEVEL, and which entries each level lets a pick take. -/
def Obligations.SetServiceLevel : Prop :=
  (∀ (tag : Byte) (l : ServiceLevel) (s : State), s.lineIdle → s.doublePollOk →
      exec (.setServiceLevel tag l.code) s =
        .next (({ s with psc.service := l } : State).replied 0x03 tag .ok (u8 l.code)))
    ∧ (∀ (tag : Byte) (n : Nat) (s : State), s.lineIdle → s.doublePollOk → ¬ within 1 3 n →
      ∃ body, exec (.setServiceLevel tag n) s = .next (s.replied 0x03 tag .outOfRange body))
    ∧ ∀ (u : UnitRec) (e : Entry) (s : State),
      s.eligible u e = true ↔
        e.awaiting = false ∧ (u.contact = .neverHeard ∨ u.contact = .inContact ∨ u.contact = .late)
          ∧ (e.cls = 0 → s.psc.service = .full ∧ u.paused = false)
          ∧ (e.cls = 1 → u.paused = false
            ∧ (s.psc.service = .full ∨ (s.psc.service = .conserve ∧ e.emergency = true)))

/-- SET RATE TABLE: the table computed by R11, and every class kept inside it; or a refusal that changes nothing. -/
def Obligations.SetRateTable : Prop :=
  ∀ (tag : Byte) (rates : List Nat) (s : State),
    let maxLen := fun b => (8064000 + 100 * b - 1) / (100 * b)
    let halfLen := fun b => (76800 + b) / (2 * b)
    let sound := within 1 6 rates.length ∧ (∀ b ∈ rates, within 300 9600 b) ∧ rates.Pairwise (fun a b => b < a)
      ∧ (rates.map maxLen).Nodup
    s.lineIdle →
      (s.runState = .loading → sound →
        ∃ t, exec (.setRateTable tag rates) s = .next t
          ∧ t.ale.rateTable = rates.map (fun b => ⟨b, maxLen b, halfLen b⟩)
          ∧ t.units.map (fun u => (u.addr, u.cls))
            = s.units.map (fun u => (u.addr, if rates.length ≤ u.cls then rates.length - 1 else u.cls))
          ∧ t.replies 0x10 tag .ok
            (u8 rates.length ++ rates.flatMap (fun b => u16 b ++ u16 (maxLen b) ++ u16 (halfLen b))))
      ∧ (s.runState = .loading → ¬ sound → s.doublePollOk →
        ∃ body, exec (.setRateTable tag rates) s = .next (s.replied 0x10 tag .outOfRange body))
      ∧ (s.runState = .operating → s.doublePollOk →
        exec (.setRateTable tag rates) s = .next (s.replied 0x10 tag .notLoading []))

/-- SET SYNC WORDS: both words are replaced, or none. -/
def Obligations.SetSyncWords : Prop :=
  ∀ (tag : Byte) (a b : Half) (s : State),
    let barred := fun w : Half => w = 0x0000#16 ∨ w = 0xFFFF#16 ∨ w = 0x5555#16 ∨ w = 0xAAAA#16
    let distance := ((List.range 16).filter (fun i => a.getLsbD i != b.getLsbD i)).length
    s.lineIdle → s.doublePollOk →
      (s.runState = .loading → ¬ barred a → ¬ barred b → 4 ≤ distance →
        exec (.setSyncWords tag a b) s =
          .next (({ s with ale.syncA := some a, ale.syncB := some b } : State).replied 0x11 tag .ok []))
      ∧ (s.runState = .loading → barred a ∨ barred b ∨ distance < 4 →
        ∃ body, exec (.setSyncWords tag a b) s = .next (s.replied 0x11 tag .outOfRange body))
      ∧ (s.runState = .operating → exec (.setSyncWords tag a b) s = .next (s.replied 0x11 tag .notLoading []))

/-- SET CHANNEL TIMING, from the defaults of R60: the six values clamped and held, the running cycle untouched, the
estimate recomputed and published with the grace, every miss budget adjusted to the new miss limit without a state
changed or an event of a unit raised, and an entry with more retries left than the new retry budget given that many. -/
def Obligations.SetChannelTiming : Prop :=
  State.reset.psc.timing = ⟨40, 30, 4000, 10000, 4, 4⟩ ∧ ∀ (tag : Byte) (v : TimingArg) (s : State), s.lineIdle →
    let c : Timing := ⟨min 250 v.k, max 10 (min 200 v.t), min 30000 v.b, min 60000 v.g, max 2 (min 15 v.n),
      max 1 (min 8 v.r)⟩
    ∃ t, exec (.setChannelTiming tag v) s = .next t
      ∧ t.psc.timing = c ∧ t.lwm.grace = c.g ∧ t.psc.running = s.psc.running
      ∧ (t.psc.estimate = t.estimateNow ∧ t.lwm.estimate = t.psc.estimate)
      ∧ t.units.map UnitRec.standing = s.units.map (fun u =>
        match u.contact with
        | .inContact => { u with budget := c.n }.standing
        | .neverHeard | .late => { u with budget := min c.n u.budget }.standing
        | .lost | .signedOff => u.standing)
      ∧ (∀ e ∈ t.clp.queue,
        e ∈ s.clp.queue ∨ e.kind = .workerStretched ∨ e.kind = .workerDue ∨ e.kind = .cycleEstimate)
      ∧ (∀ u ∈ s.units, ∃ u' ∈ t.units, u'.addr = u.addr ∧ ∀ e ∈ u.outbox, ∃ e' ∈ u'.outbox,
        e' = { e with retries := if c.r < e.retries then c.r else e.retries }
          ∨ ((∃ w, e.source = .worker w) ∧ e'.source = e.source ∧ e'.time = s.now ∧ e'.retries = c.r))
      ∧ t.replies 0x12 tag (if c = ⟨v.k, v.t, v.b, v.g, v.n, v.r⟩ then .ok else .clamped)
        (u16 c.k ++ u16 c.t ++ u16 c.b ++ u16 c.g ++ u8 c.n ++ u8 c.r)

/-- SET CLASS INTERVALS: the seven values clamped and held; no alarm's window end moves. -/
def Obligations.SetClassIntervals : Prop :=
  ∀ (tag : Byte) (v : IntervalsArg) (s : State), s.lineIdle →
    let base := fun n => max 20 (min 3600 n)
    let c : Intervals := ⟨base v.general, base v.elevated, base v.isolated, base v.live, max 30 (min 600 v.prompt),
      max 10 (min 120 v.cancel)⟩
    let ack := max 30 (min 600 v.ack)
    ∃ t, exec (.setClassIntervals tag v) s = .next t
      ∧ t.lwm.intervals = c ∧ t.als.ackWindow = ack ∧ t.als.alarms = s.als.alarms
      ∧ t.replies 0x13 tag
        (if c = ⟨v.general, v.elevated, v.isolated, v.live, v.prompt, v.cancel⟩ ∧ ack = v.ack then .ok else .clamped)
        (u16 c.general ++ u16 c.elevated ++ u16 c.isolated ++ u16 c.live ++ u16 c.prompt ++ u16 c.cancel ++ u16 ack)

/-- SET STATUS KEYS: the whole table is replaced, or none of it. -/
def Obligations.SetStatusKeys : Prop :=
  ∀ (tag : Byte) (keys : List KeyArg) (s : State), s.lineIdle → s.doublePollOk →
    let sound := keys.length ≤ 16 ∧ (∀ k ∈ keys, within 1 255 k.code ∧ within 1 5 k.action)
      ∧ (keys.map KeyArg.code).Nodup
    (sound → ∃ table : List StatusKey,
        table.map (fun k => (k.code, k.action.code, k.report)) = keys.map (fun k => (k.code, k.action, k.report))
          ∧ exec (.setStatusKeys tag keys) s = .next (({ s with keys := table } : State).replied 0x14 tag .ok []))
      ∧ (¬ sound → ∃ body, exec (.setStatusKeys tag keys) s = .next (s.replied 0x14 tag .outOfRange body))

/-! ## The queries -/

/-- QUERY PART and QUERY LINK answer with the part's and the channel's figures and change nothing. Widths the manual does
not give, the three bytes of the entries at each level and the level of SITE ALARM are the model's (logs 8, 10). -/
def Obligations.QueryPartAndLink : Prop :=
  ∀ (tag : Byte) (s : State), s.lineIdle → s.doublePollOk →
    let c := s.ale.counters
    let at_ := fun l : Nat => (s.clp.queue.filter (fun e => e.level == l)).length
    exec (.queryPart tag) s = .next (s.replied 0x04 tag .ok
        (u8 s.runState.code ++ u48 s.clock.toNat ++ u8 s.psc.service.code ++ u32 s.clp.lineRate
          ++ u32 s.psc.estimate ++ u8 s.psc.cycleState.code ++ u32 s.psc.cycleNumber.toNat
          ++ u32 (if s.psc.cycleState = .stopped then 2 ^ 32 - 1 else s.psc.estimateInForce) ++ u16 s.psc.passedOver
          ++ u16 s.clp.lengthDiscards ++ u16 s.clp.gapDiscards ++ u16 s.clp.badFrames ++ u16 s.clp.busies
          ++ u16 s.clp.overruns
          ++ u16 (min 65535 (c.beyondTable + c.noSync + c.truncated + c.badLength + c.badCheck + c.badKind
            + c.unknownUnit + c.wrongFleet))
          ++ u8 s.clp.queue.length ++ u8 (at_ 1) ++ u8 (at_ 2) ++ u8 (at_ 3) ++ u16 s.clp.lost ++ u8 s.clp.highestLost
          ++ u8 s.units.length ++ u8 s.lwm.workers.length ++ u8 s.wos.orders.length ++ u8 s.als.alarms.length
          ++ u8 s.swr.devices.length ++ u8 s.swr.steps.length ++ u8 s.pmt.permits.length ++ u8 s.pmt.closing.length
          ++ yesNo s.als.siteAlarm))
      ∧ exec (.queryLink tag) s = .next (s.replied 0x05 tag .ok
        (u16 c.beyondTable ++ u16 c.noSync ++ u16 c.truncated ++ u16 c.badLength ++ u16 c.badCheck ++ u16 c.badKind
          ++ u16 c.unknownUnit ++ u16 c.wrongFleet ++ u8 s.ale.rxState.code
          ++ u8 s.ale.rateTable.length ++ s.ale.rateTable.flatMap (fun r => u16 r.rate ++ u16 r.maxLen ++ u16 r.halfLen)
          ++ u16 ((s.ale.syncA.map BitVec.toNat).getD 0) ++ u16 ((s.ale.syncB.map BitVec.toNat).getD 0)
          ++ u8 s.ale.txState.code))

/-- QUERY UNIT, QUERY WORKER and QUERY ORDER answer with the record's fields, a list, or NOT_FOUND, and change
nothing. -/
def Obligations.QueryRosterAndOrders : Prop :=
  ∀ (tag : Byte) (s : State), s.lineIdle → s.doublePollOk →
    (exec (.queryUnit tag 0) s = .next (s.replied 0x27 tag .ok
        (listBytes (fun u : UnitRec => u8 u.addr ++ u8 u.fleet.code ++ u8 u.contact.code ++ u8 u.budget ++ u8 u.cls)
          s.units))
      ∧ ∀ a, a ≠ 0 →
        (s.unit? a = none → exec (.queryUnit tag a) s = .next (s.replied 0x27 tag .notFound (u8 a)))
        ∧ ∀ u, s.unit? a = some u → exec (.queryUnit tag a) s = .next (s.replied 0x27 tag .ok
          (u.bytes ++ u16 (s.ale.rateOf u.cls) ++ u8 u.outbox.length ++ u8 (s.workersOf a).length
            ++ u8 (s.ordersOf a).length ++ u8 (s.stepsOf a).length ++ u8 (s.permitsOf a).length
            ++ u8 (if u.contact = .signedOff then 4
              else if s.permitsOf a ≠ [] then 1
              else if (s.ordersOf a).any (fun o => o.state != .posted) then 2
              else if s.alarmsOf [a] ≠ [] then 3 else 255))))
    ∧ (∀ w, (s.worker? w = none →
          exec (.queryWorker tag (.record w)) s = .next (s.replied 0x28 tag .notFound (u16 w)))
        ∧ ∀ r, s.worker? w = some r → exec (.queryWorker tag (.record w)) s = .next (s.replied 0x28 tag .ok
          (r.bytes ++ u16 (s.hazardOf r.unit) ++ u32 (2 * s.lwm.estimate + s.lwm.grace)
            ++ s.frameStanding r.unit (.worker w))))
    ∧ (∀ n, (s.orderNumbered? n = none →
          exec (.queryOrder tag (.record n)) s = .next (s.replied 0x33 tag .notFound (u32 n)))
        ∧ ∀ o, s.orderNumbered? n = some o → exec (.queryOrder tag (.record n)) s = .next (s.replied 0x33 tag .ok
          (o.bytes ++ u8 (((o.permit.bind (fun p => s.permit? p)).map (fun p => p.state.code)).getD 0)
            ++ u8 (s.frameKindHeld o.unit (.order o.handle)) ++ s.frameStanding o.unit (.order o.handle))))
    ∧ ∀ a, (s.unit? a = none →
          exec (.queryWorker tag (.unit a)) s = .next (s.replied 0x28 tag .notFound (u8 a))
            ∧ exec (.queryOrder tag (.unit a)) s = .next (s.replied 0x33 tag .notFound (u8 a)))
        ∧ ((s.unit? a).isSome = true →
          exec (.queryWorker tag (.unit a)) s
              = .next (s.replied 0x28 tag .ok (listBytes WorkerRec.listBytes (s.workersOf a)))
            ∧ exec (.queryOrder tag (.unit a)) s
              = .next (s.replied 0x33 tag .ok (listBytes OrderRec.listBytes (s.ordersOf a))))

/-- QUERY ALARMS, QUERY DEVICE, QUERY STEPS and QUERY PERMIT answer with the record's fields, a list, or NOT_FOUND, and
change nothing. -/
def Obligations.QueryAlarmsStepsAndPermits : Prop :=
  ∀ (tag : Byte) (s : State), s.lineIdle → s.doublePollOk →
    (exec (.queryAlarms tag 0) s = .next (s.replied 0x42 tag .ok
          (yesNo s.als.siteAlarm ++ u16 s.als.ackWindow ++ listBytes u8 s.psc.doublePoll
            ++ listBytes AlarmRec.bytes s.als.alarms))
        ∧ exec (.queryDevice tag 0) s = .next (s.replied 0x55 tag .ok
          (listBytes (fun d : DeviceRec => u16 d.number ++ u8 d.kind.code ++ u8 d.position.code ++ u8 d.tags.length
            ++ yesNo d.inViolation ++ u8 (d.pendingStep.getD 0)) s.swr.devices))
        ∧ exec (.querySteps tag 0) s = .next (s.replied 0x56 tag .ok
          (listBytes s.stepBytes ((s.units.map UnitRec.addr).flatMap s.stepsOf) ++ u8 s.swr.nextStep))
        ∧ exec (.queryPermit tag 0) s = .next (s.replied 0x68 tag .ok
          (listBytes PermitRec.listBytes s.pmt.permits ++ listBytes ClosingItem.bytes s.pmt.closing)))
    ∧ ∀ n, n ≠ 0 →
      (s.alarm? n = none → exec (.queryAlarms tag n) s = .next (s.replied 0x42 tag .notFound (u16 n)))
      ∧ (∀ r, s.alarm? n = some r → exec (.queryAlarms tag n) s = .next (s.replied 0x42 tag .ok r.bytes))
      ∧ (s.device? n = none → exec (.queryDevice tag n) s = .next (s.replied 0x55 tag .notFound (u16 n)))
      ∧ (∀ d, s.device? n = some d → exec (.queryDevice tag n) s = .next (s.replied 0x55 tag .ok
        (d.bytes ++ u8 (if d.tags = [] then 0 else d.kind.held.code) ++ yesNo d.inViolation
          ++ u8 (((d.pendingStep.bind s.step?).map (fun x => x.state.code)).getD 0))))
      ∧ (s.unit? n = none → exec (.querySteps tag n) s = .next (s.replied 0x56 tag .notFound (u8 n)))
      ∧ ((s.unit? n).isSome = true →
        exec (.querySteps tag n) s = .next (s.replied 0x56 tag .ok (listBytes s.stepBytes (s.stepsOf n))))
      ∧ (s.permit? n = none → exec (.queryPermit tag n) s = .next (s.replied 0x68 tag .notFound (u16 n)))
      ∧ (∀ p, s.permit? n = some p → exec (.queryPermit tag n) s = .next (s.replied 0x68 tag .ok (s.permitBytes p)))

/-! ## The roster and the crews -/

/-- DEFINE UNIT adds the record of R22 and REMOVE UNIT takes a record nothing refers to away; the other units keep their
identity and standing. And what each is refused for, in the order of its checks; the numbers of the fields and the code
of the collection are the model's (log 9). -/
def Obligations.DefineAndRemoveUnit : Prop :=
  (∀ (tag : Byte) (v : UnitArg) (f : Fleet) (s : State), s.lineIdle →
      within 1 239 v.addr → f.code = v.fleet → within 1 8 v.callSign.length →
      (∀ b ∈ v.callSign, within 32 126 b.toNat) → within 1 2 v.sign → v.cls ≤ 5 →
      (s.ale.rateTable = [] ∨ v.cls < s.ale.rateTable.length) → s.unit? v.addr = none → s.units.length < 48 →
      ∃ t u, exec (.defineUnit tag v) s = .next t ∧ t.unit? v.addr = some u
        ∧ u.identity = (v.addr, f, v.callSign)
        ∧ u.standing = (v.cls, if v.sign = 1 then .neverHeard else .signedOff,
          if v.sign = 1 then s.psc.timing.n else 0, false, 0, false, none)
        ∧ u.hazard = s.lwm.intervals.general
        ∧ (t.units.map (fun u => (u.identity, u.standing))).filter (fun x => x.1.1 != v.addr)
          = s.units.map (fun u => (u.identity, u.standing))
        ∧ ((s.units.map UnitRec.addr).Pairwise (· < ·) → (t.units.map UnitRec.addr).Pairwise (· < ·))
        ∧ t.replies 0x20 tag .ok [])
    ∧ (∀ (tag : Byte) (v : UnitArg) (s : State), s.lineIdle → s.doublePollOk →
      let refused := fun (o : ReplyOutcome) (body : List Byte) =>
        exec (.defineUnit tag v) s = .next (s.replied 0x20 tag o body)
      let addr := within 1 239 v.addr
      let fleet := within 1 2 v.fleet
      let name := within 1 8 v.callSign.length ∧ ∀ b ∈ v.callSign, within 32 126 b.toNat
      let sign := within 1 2 v.sign
      let cls := v.cls ≤ 5 ∧ (s.ale.rateTable = [] ∨ v.cls < s.ale.rateTable.length)
      (¬ addr → refused .outOfRange (u8 1))
      ∧ (addr → ¬ fleet → refused .outOfRange (u8 2))
      ∧ (addr → fleet → ¬ name → refused .outOfRange (u8 3))
      ∧ (addr → fleet → name → ¬ sign → refused .outOfRange (u8 5))
      ∧ (addr → fleet → name → sign →
        (¬ cls → refused .outOfRange (u8 4))
        ∧ (cls → (s.unit? v.addr).isSome = true → refused .exists_ (u8 v.addr))
        ∧ (cls → s.unit? v.addr = none → 48 ≤ s.units.length → refused .full (u8 1))))
    ∧ (∀ (tag : Byte) (a : Nat) (s : State), s.lineIdle → s.doublePollOk →
      let refused := fun (o : ReplyOutcome) (body : List Byte) =>
        exec (.removeUnit tag a) s = .next (s.replied 0x21 tag o body)
      let worker := ∃ w ∈ s.lwm.workers, w.unit = a
      let order := ∃ o ∈ s.wos.orders, o.unit = a
      let step := ∃ x ∈ s.swr.steps, x.unit = a
      let permit := ∃ p ∈ s.pmt.permits, a ∈ p.members
      (s.unit? a = none → refused .notFound (u8 a))
      ∧ ((s.unit? a).isSome = true →
        (worker → refused .wrongState (u8 1))
        ∧ (¬ worker → order → refused .wrongState (u8 2))
        ∧ (¬ worker → ¬ order → step → refused .wrongState (u8 3))
        ∧ (¬ worker → ¬ order → ¬ step → permit → refused .wrongState (u8 4))))
    ∧ ∀ (tag : Byte) (a : Nat) (s : State), s.lineIdle → (s.unit? a).isSome = true →
      (∀ w ∈ s.lwm.workers, w.unit ≠ a) → (∀ o ∈ s.wos.orders, o.unit ≠ a) → (∀ x ∈ s.swr.steps, x.unit ≠ a) →
      (∀ p ∈ s.pmt.permits, a ∉ p.members) →
      ∃ t, exec (.removeUnit tag a) s = .next t
        ∧ t.units.map (fun u => (u.identity, u.standing))
          = (s.units.filter (fun u => u.addr != a)).map (fun u => (u.identity, u.standing))
        ∧ t.pmt.closing = s.pmt.closing.filter (fun i => i.unit != a)
        ∧ t.replies 0x21 tag .ok []

/-- SIGN ON and SIGN OFF: the unit's standing, its workers, its outbox, the demands that outlive a sign-off, and the
refusals in their order; the other units keep their standing. And what a status key does, a SIGN_OFF key among them: on
a change of code its action, with STATUS_KEY where the report flag is set; on the same code the check-in alone. The model's
own in this: the code 4 of a unit already SIGNED_OFF (log 10), the contact state in SIGN ON's refusal (log 31), that NONE
takes no effect (log 26), the effects of a key, SIGN_OFF_REFUSED and UNIT_SIGNED_OFF before STATUS_KEY (log 11), and the
last status key 0 after a sign-off and the entries of orders and steps kept as waiting demands (log 29). -/
def Obligations.SignOnAndSignOff : Prop :=
  (∀ (tag : Byte) (a : Nat) (u : UnitRec) (s : State), s.lineIdle → s.loadingOk → s.deadlinesOk →
      s.rangesOk → s.unit? a = some u → u.contact = .signedOff →
      ∃ t, exec (.signOn tag a) s = .next t
        ∧ t.units.map UnitRec.standing = s.units.map (fun x =>
          if x.addr = a then
            { x with contact := .neverHeard, budget := s.psc.timing.n, heard := false, lastKey := 0, paused := false
              }.standing
          else x.standing)
        ∧ (∀ w ∈ s.lwm.workers, w.unit = a → ∃ w' ∈ t.lwm.workers, w'.place = w.place
          ∧ (s.runState = .operating →
            w'.state = .ok ∧ w'.lastCheckin = some (max (w.lastCheckin.getD 0) s.now) ∧ w'.windowEnd = none)
          ∧ (s.runState = .loading → w'.state = w.state ∧ w'.lastCheckin = w.lastCheckin))
        ∧ t.replies 0x22 tag .ok [])
    ∧ (∀ (tag : Byte) (a : Nat) (u : UnitRec) (s : State), s.lineIdle → (s.lwm.workers.map WorkerRec.id).Nodup →
      s.unit? a = some u → u.contact ≠ .signedOff →
      (∀ p ∈ s.pmt.permits, a ∉ p.members) → (∀ o ∈ s.wos.orders, o.unit = a → o.state = .posted) →
      (∀ r ∈ s.als.alarms, r.unit ≠ a) →
      ∃ t, exec (.signOff tag a) s = .next t
        ∧ t.units.map UnitRec.standing = s.units.map (fun x =>
          if x.addr = a then { x with contact := .signedOff, budget := 0, lastKey := 0 }.standing else x.standing)
        ∧ (∀ x ∈ t.units, x.addr = a → x.outbox = [])
        ∧ (∀ w ∈ s.lwm.workers, w.unit = a → ∃ w' ∈ t.lwm.workers, w'.place = w.place ∧ w'.state = .inactive
          ∧ w'.deadline = none ∧ w'.windowEnd = none ∧ w'.lastCondition = none ∧ w'.lastCheckin = w.lastCheckin)
        ∧ (∀ w ∈ s.lwm.workers, w.unit = a → t.holdsNone a (.worker w.id))
        ∧ (∀ x ∈ s.units, x.addr = a → ∀ e ∈ x.outbox, ∀ h, e.source = .order h →
          t.holds a (.order h) e.content e.cls e.emergency)
        ∧ ((s.swr.steps.map StepRec.id).Nodup →
          t.swr.steps = s.swr.steps.map (fun q =>
            if q.unit = a ∧ q.state = .sent ∧ q.awaited = true then { q with awaited := false } else q)
          ∧ (∀ x ∈ s.units, x.addr = a → ∀ e ∈ x.outbox, ∀ k, e.source = .step k →
            (∀ q ∈ s.swr.steps, q.id = k → q.awaited = false) → t.holds a (.step k) e.content e.cls e.emergency)
          ∧ ∀ q ∈ s.swr.steps, q.unit = a → q.state = .sent → q.awaited = true →
            t.holds a (.step q.id) (.step q.id q.device q.operation) 2 false)
        ∧ t.pmt.closing = s.pmt.closing.filter (fun i => i.unit != a)
        ∧ t.replies 0x23 tag .ok [])
    ∧ (∀ (tag : Byte) (a : Nat) (s : State), s.lineIdle → s.doublePollOk →
      (s.unit? a = none → exec (.signOn tag a) s = .next (s.replied 0x22 tag .notFound (u8 a))
        ∧ exec (.signOff tag a) s = .next (s.replied 0x23 tag .notFound (u8 a)))
      ∧ ∀ u, s.unit? a = some u →
        (u.contact ≠ .signedOff →
          exec (.signOn tag a) s = .next (s.replied 0x22 tag .wrongState (u8 u.contact.code)))
        ∧ (u.contact = .signedOff → exec (.signOff tag a) s = .next (s.replied 0x23 tag .wrongState (u8 4)))
        ∧ (u.contact ≠ .signedOff →
          ((∃ p ∈ s.pmt.permits, a ∈ p.members) →
            exec (.signOff tag a) s = .next (s.replied 0x23 tag .wrongState (u8 1)))
          ∧ ((∀ p ∈ s.pmt.permits, a ∉ p.members) →
            ((∃ o ∈ s.wos.orders, o.unit = a ∧ o.state ≠ .posted) →
              exec (.signOff tag a) s = .next (s.replied 0x23 tag .wrongState (u8 2)))
            ∧ ((∀ o ∈ s.wos.orders, o.unit = a → o.state = .posted) → (∃ r ∈ s.als.alarms, r.unit = a) →
              exec (.signOff tag a) s = .next (s.replied 0x23 tag .wrongState (u8 3))))))
    ∧ ∀ (a code : Nat) (at_ : Millis) (u : UnitRec) (s : State), s.unit? a = some u →
      let seen : State := { s with units := s.units.map (fun x => if x.addr = a then { x with lastKey := code } else x) }
      let pausing := fun (p : Bool) => ({ seen with
        units := seen.units.map (fun x => if x.addr = a then { x with paused := p } else x) } : State)
      (code = 0 → s.statusKey a code at_ = seen)
      ∧ (code ≠ 0 → (∀ k ∈ s.keys, k.code ≠ code) → s.statusKey a code at_ =
        if code = u.lastKey then seen else seen.raise .unknownStatus (.unit a) (u8 code))
      ∧ ∀ k ∈ s.keys, k.code = code → code ≠ 0 → (s.keys.map StatusKey.code).Nodup →
        let told := fun (effect : Bool) (t : State) =>
          if k.report then t.raise .statusKey (.unit a) (u8 code ++ u8 k.action.code ++ yesNo effect) else t
        (k.action = .crewCheckin → s.statusKey a code at_ =
          if code = u.lastKey then seen.crewCheckIn a at_ else told true (seen.crewCheckIn a at_))
        ∧ (k.action ≠ .crewCheckin → code = u.lastKey → s.statusKey a code at_ = seen)
        ∧ (code ≠ u.lastKey →
          (k.action = .noAction → s.statusKey a code at_ = told false seen)
          ∧ (k.action = .pause → s.statusKey a code at_ = told (!u.paused) (pausing true))
          ∧ (k.action = .resume → s.statusKey a code at_ = told u.paused (pausing false))
          ∧ (k.action = .signOff →
            let refused := fun reason : Nat => told false (seen.raise .signOffRefused (.unit a) (u8 reason))
            ((∃ p ∈ s.pmt.permits, a ∈ p.members) → s.statusKey a code at_ = refused 1)
            ∧ ((∀ p ∈ s.pmt.permits, a ∉ p.members) →
              ((∃ o ∈ s.wos.orders, o.unit = a ∧ o.state ≠ .posted) → s.statusKey a code at_ = refused 2)
              ∧ ((∀ o ∈ s.wos.orders, o.unit = a → o.state = .posted) →
                ((∃ r ∈ s.als.alarms, r.unit = a) → s.statusKey a code at_ = refused 3)
                ∧ ((∀ r ∈ s.als.alarms, r.unit ≠ a) →
                  s.statusKey a code at_ = told true ((seen.signOff a).raise .unitSignedOff (.unit a) []))))))

/-- DEFINE WORKER, MOVE WORKER and REMOVE WORKER: the lowest free slot, the state by the run state and the unit, the
interval and the deadline, the reply, and the places of the other workers. MOVE WORKER's reply is the worker as the move
leaves it, before the double-poll set is brought up to date (the model's choice, log 12). And what each is refused for, in
the order of its checks; the numbers of the fields, the code of the collection, the worker's state in WRONG_STATE and
alarm check-in reported, no at first, are the model's (logs 9, 31, 34). -/
def Obligations.DefineMoveAndRemoveWorker : Prop :=
  (∀ (tag : Byte) (id a : Nat) (u : UnitRec) (s : State), s.lineIdle → s.doublePollOk → s.rangesOk →
      within 1 65535 id → within 1 239 a → s.unit? a = some u → s.worker? id = none → (s.workersOf a).length < 6 →
      s.lwm.workers.length < 64 →
      ∃ t w, exec (.defineWorker tag id a) s = .next t ∧ t.worker? id = some w ∧ w.unit = a ∧ w.slot < 6
        ∧ (∀ x ∈ s.workersOf a, x.slot ≠ w.slot) ∧ (∀ n < w.slot, ∃ x ∈ s.workersOf a, x.slot = n)
        ∧ w.interval = max u.hazard ((2 * s.lwm.estimate + s.lwm.grace + 999) / 1000)
        ∧ (s.runState = .operating → u.contact ≠ .signedOff → w.state = .ok ∧ w.lastCheckin = some s.now
          ∧ w.deadline = some (s.now + 1000 * w.interval))
        ∧ (s.runState = .loading ∨ u.contact = .signedOff → w.state = .inactive ∧ w.lastCheckin = none
          ∧ w.deadline = none)
        ∧ w.windowEnd = none ∧ w.lastCondition = none ∧ w.alarmReported = false
        ∧ (t.lwm.workers.filter (fun x => x.id != id)).map WorkerRec.place = s.lwm.workers.map WorkerRec.place
        ∧ t.replies 0x24 tag .ok (u8 w.slot ++ u8 w.state.code ++ u16 w.interval ++ yesNo w.stretched))
    ∧ (∀ (tag : Byte) (id a : Nat) (w : WorkerRec) (u : UnitRec) (s : State), s.lineIdle → s.deadlinesOk →
      s.rangesOk → s.worker? id = some w → s.unit? a = some u → w.state = .ok ∨ w.state = .inactive → w.unit ≠ a →
      (s.workersOf a).length < 6 →
      let m := (2 * s.lwm.estimate + s.lwm.grace + 999) / 1000
      let e := max u.hazard m
      let st : WorkerState :=
        if u.contact = .signedOff then .inactive
        else if w.state = .ok then (if w.lastCheckin.getD 0 + 1000 * e ≤ s.now then .due else .ok)
        else if s.runState = .operating then .ok else .inactive
      ∃ t w', exec (.moveWorker tag id a) s = .next t ∧ t.worker? id = some w' ∧ w'.unit = a ∧ w'.slot < 6
        ∧ (∀ x ∈ s.workersOf a, x.slot ≠ w'.slot) ∧ (∀ n < w'.slot, ∃ x ∈ s.workersOf a, x.slot = n)
        ∧ w'.lastCondition = none
        ∧ (u.contact = .signedOff → w'.state = .inactive ∧ w'.lastCheckin = w.lastCheckin)
        ∧ (u.contact ≠ .signedOff → w.state = .ok →
          (w'.state = .ok ∨ w'.state = .due) ∧ w'.lastCheckin = w.lastCheckin)
        ∧ (u.contact ≠ .signedOff → w.state = .inactive → s.runState = .operating →
          w'.state = .ok ∧ w'.lastCheckin = some (max (w.lastCheckin.getD 0) s.now))
        ∧ (w.state = .inactive → s.runState = .loading → w'.state = .inactive ∧ w'.lastCheckin = w.lastCheckin)
        ∧ (s.doublePollOk → st ≠ .due → w'.state = st ∧ w'.interval = e ∧ w'.stretched = decide (u.hazard < m))
        ∧ (st = .due → w'.state = .due ∧ w'.windowEnd = some (s.now + 1000 * s.lwm.intervals.prompt)
          ∧ t.holds a (.worker id) (.prompt w'.slot .checkinRequest) 3 false)
        ∧ w'.interval = t.lwm.effective u.hazard ∧ w'.stretched = t.lwm.stretches u.hazard
        ∧ (w'.state = .ok → ∃ last, w'.lastCheckin = some last ∧ w'.deadline = some (last + 1000 * w'.interval))
        ∧ (w'.state ≠ .ok → w'.deadline = none)
        ∧ (t.lwm.workers.filter (fun x => x.id != id)).map WorkerRec.place
          = (s.lwm.workers.filter (fun x => x.id != id)).map WorkerRec.place
        ∧ t.replies 0x25 tag .ok (u8 w'.slot ++ u8 st.code ++ u16 e ++ yesNo (decide (u.hazard < m))))
    ∧ (∀ (tag : Byte) (id a : Nat) (s : State), s.lineIdle → s.doublePollOk →
      let refused := fun (o : ReplyOutcome) (body : List Byte) =>
        exec (.defineWorker tag id a) s = .next (s.replied 0x24 tag o body)
      let kept := fun (o : ReplyOutcome) (body : List Byte) =>
        exec (.moveWorker tag id a) s = .next (s.replied 0x25 tag o body)
      (¬ within 1 65535 id → refused .outOfRange (u8 1))
      ∧ (within 1 65535 id → ¬ within 1 239 a → refused .outOfRange (u8 2))
      ∧ (within 1 65535 id → within 1 239 a →
        (s.unit? a = none → refused .notFound (u8 a))
        ∧ ((s.unit? a).isSome = true → (s.worker? id).isSome = true → refused .exists_ (u16 id))
        ∧ ((s.unit? a).isSome = true → s.worker? id = none →
          6 ≤ (s.workersOf a).length ∨ 64 ≤ s.lwm.workers.length → refused .full (u8 2)))
      ∧ (s.worker? id = none → kept .notFound (u16 id)
        ∧ exec (.removeWorker tag id) s = .next (s.replied 0x26 tag .notFound (u16 id)))
      ∧ ∀ w, s.worker? id = some w →
        (w.state = .alarm → exec (.removeWorker tag id) s = .next (s.replied 0x26 tag .wrongState (u8 5)))
        ∧ (s.unit? a = none → kept .notFound (u8 a))
        ∧ ((s.unit? a).isSome = true →
          let stays := w.state = .due ∨ w.state = .prealert ∨ w.state = .alarm ∨ w.unit = a
          (stays → kept .wrongState (u8 w.state.code))
          ∧ (¬ stays → 6 ≤ (s.workersOf a).length → kept .full (u8 2))))
    ∧ ∀ (tag : Byte) (id : Nat) (w : WorkerRec) (s : State), s.lineIdle → s.worker? id = some w → w.state ≠ .alarm →
      ∃ t, exec (.removeWorker tag id) s = .next t
        ∧ t.lwm.workers.map WorkerRec.place
          = (s.lwm.workers.filter (fun x => x.id != id)).map WorkerRec.place
        ∧ t.holdsNone w.unit (.worker id)
        ∧ t.replies 0x26 tag .ok []

/-! ## Orders -/

/-- POST ORDER adds the record of R63 and R64, and a POSTED order of a unit with no other goes out at once. And what it
is refused for, in the order of its checks; the numbers of the fields, the code of the collection and the permit's state
in WRONG_STATE are the model's (logs 9, 31). -/
def Obligations.PostOrder : Prop :=
  (∀ (tag : Byte) (v : OrderArg) (u : UnitRec) (s : State), s.lineIdle → s.numbersOk →
    within 1 239 v.unit → within 1 3 v.priority → within 1 4 v.hazard → within 1 240 v.text.length → v.start ≤ 5 →
    (2 ≤ v.start → s.runState = .loading) → s.unit? v.unit = some u → s.orderNumbered? v.number = none →
    (v.permit = 0 ∨ ∃ p, s.permit? v.permit = some p ∧ v.unit ∈ p.members) → s.wos.orders.length < 96 →
    ∃ t o, exec (.postOrder tag v) s = .next t ∧ o ∈ t.wos.orders
      ∧ (o.handle = s.wos.nextHandle ∧ o.number = v.number ∧ o.unit = v.unit ∧ o.priority.code = v.priority
        ∧ o.hazard.code = v.hazard ∧ o.permit = (if v.permit = 0 then none else some v.permit) ∧ o.former = none
        ∧ o.text = v.text ∧ o.resume = none ∧ o.stopOut = false ∧ o.posted = s.now)
      ∧ o.segAcked = (if v.start ≤ 1 then 0 else (v.text.length + 39) / 40)
      ∧ (v.start ≤ 1 → o.state = .posted ∨ o.state = .sending)
      ∧ (v.start ≤ 1 → u.contact = .signedOff → o.state = .posted)
      ∧ (v.start ≤ 1 → u.contact ≠ .signedOff →
        (∀ q ∈ s.wos.orders, q.unit = v.unit → q.state ≠ .sending ∧ q.state ≠ .posted) →
        o.state = .sending ∧ t.holds v.unit (.order o.handle) (o.segment 0) o.priority.segmentClass
          (o.priority == .emergency))
      ∧ (v.start = 2 → o.state = .delivered) ∧ (v.start = 3 → o.state = .accepted) ∧ (v.start = 4 → o.state = .enRoute)
      ∧ (v.start = 5 → o.state = if v.permit = 0 then .onSite else .gated)
      ∧ (∀ q ∈ s.wos.orders, q.unit ≠ v.unit → q ∈ t.wos.orders)
      ∧ t.replies 0x30 tag .ok (u16 o.handle ++ u8 ((v.text.length + 39) / 40)))
    ∧ ∀ (tag : Byte) (v : OrderArg) (s : State), s.lineIdle → s.doublePollOk →
      let refused := fun (o : ReplyOutcome) (body : List Byte) =>
        exec (.postOrder tag v) s = .next (s.replied 0x30 tag o body)
      let addr := within 1 239 v.unit
      let rank := within 1 3 v.priority
      let hazard := within 1 4 v.hazard
      let text := within 1 240 v.text.length
      (¬ addr → refused .outOfRange (u8 2))
      ∧ (addr → ¬ rank → refused .outOfRange (u8 3))
      ∧ (addr → rank → ¬ hazard → refused .outOfRange (u8 4))
      ∧ (addr → rank → hazard → ¬ text → refused .outOfRange (u8 6))
      ∧ (addr → rank → hazard → text → 5 < v.start → refused .outOfRange (u8 7))
      ∧ (addr → rank → hazard → text → v.start ≤ 5 →
        (2 ≤ v.start → s.runState = .operating → refused .notLoading [])
        ∧ (v.start ≤ 1 ∨ s.runState = .loading →
          (s.unit? v.unit = none → refused .notFound (u8 v.unit))
          ∧ ((s.unit? v.unit).isSome = true →
            ((s.orderNumbered? v.number).isSome = true → refused .exists_ (u32 v.number))
            ∧ (s.orderNumbered? v.number = none →
              (v.permit ≠ 0 → s.permit? v.permit = none → refused .notFound (u16 v.permit))
              ∧ (∀ p, v.permit ≠ 0 → s.permit? v.permit = some p → v.unit ∉ p.members →
                refused .wrongState (u8 p.state.code))
              ∧ (v.permit = 0 ∨ (∃ p, s.permit? v.permit = some p ∧ v.unit ∈ p.members) →
                96 ≤ s.wos.orders.length → refused .full (u8 3))))))

/-- RECALL ORDER frees a POSTED order, sends RECALL for one under way, and frees a RECALLING one of a LOST unit;
RELINK ORDER puts a BLOCKED order back at its resume point under the new permit. Orders of other units stay. Both are
refused in the order of their checks. And what an ORDER_STATE item of a crew does, by the state of the order: the table of
R69 and the permit gate of R71. And what the outcome of an order's frame does: the next segment, DELIVERED and the unit's
next order, WORKING, GATED again, a STOP no longer outstanding, RECALLED, FAILED. The codes of the terminal states, the
marks of ORDER_STATE_IGNORED and the level of an acknowledged STOP's ORDER_STATE are the model's (log 10), and so are the
bodies of the refusals (logs 9, 31) and the state that RELINK ORDER returns where R65 makes the order SENDING (log 33). -/
def Obligations.RecallAndRelinkOrder : Prop :=
  (∀ (tag : Byte) (n : Nat) (o : OrderRec) (u : UnitRec) (s : State), s.lineIdle → s.numbersOk →
      s.orderNumbered? n = some o → s.unit? o.unit = some u →
      (o.state = .posted ∨ (o.state = .recalling ∧ u.contact = .lost) →
        ∃ t, exec (.recallOrder tag n) s = .next t ∧ t.order? o.handle = none
          ∧ (∀ q ∈ s.wos.orders, q.unit ≠ o.unit → q ∈ t.wos.orders) ∧ t.holdsNone o.unit (.order o.handle)
          ∧ t.replies 0x31 tag .ok (u8 15))
      ∧ (o.state ≠ .posted → o.state ≠ .recalling →
        ∃ t o', exec (.recallOrder tag n) s = .next t ∧ t.order? o.handle = some o' ∧ o'.state = .recalling
          ∧ o'.stopOut = false ∧ o'.resume = none
          ∧ (∀ q ∈ s.wos.orders, q.unit ≠ o.unit → q ∈ t.wos.orders)
          ∧ t.holds o.unit (.order o.handle) (.orderNotice o.handle .recall)
            (if o.state = .proceeding ∨ o.state = .working ∨ o.stopOut = true then 3 else 2) false
          ∧ t.replies 0x31 tag .ok (u8 12))
      ∧ (o.state = .recalling → u.contact ≠ .lost → s.doublePollOk →
        exec (.recallOrder tag n) s = .next (s.replied 0x31 tag .wrongState (u8 u.contact.code))))
    ∧ (∀ (tag : Byte) (n k : Nat) (s : State), s.lineIdle → s.doublePollOk →
      (s.orderNumbered? n = none → exec (.recallOrder tag n) s = .next (s.replied 0x31 tag .notFound (u32 n))
        ∧ exec (.relinkOrder tag n k) s = .next (s.replied 0x32 tag .notFound (u32 n)))
      ∧ ∀ o, s.orderNumbered? n = some o →
        (o.state ≠ .blocked → exec (.relinkOrder tag n k) s = .next (s.replied 0x32 tag .wrongState (u8 o.state.code)))
        ∧ (o.state = .blocked →
          (s.permit? k = none → exec (.relinkOrder tag n k) s = .next (s.replied 0x32 tag .notFound (u16 k)))
          ∧ ∀ p, s.permit? k = some p → o.unit ∉ p.members →
            exec (.relinkOrder tag n k) s = .next (s.replied 0x32 tag .wrongState (u8 p.state.code))))
    ∧ (∀ (a h : Nat) (e : Entry) (o : OrderRec) (s : State), e.source = .order h → s.order? h = some o →
      (s.wos.orders.map OrderRec.handle).Nodup →
      let set := fun (f : OrderRec → OrderRec) => s.wos.orders.map (fun q => if q.handle = h then f q else q)
      let changed := fun (floor : Nat) (st : OrderState) (cause : Nat) (phrase : Bool) (t : State) =>
        s.reported floor .orderState (.order h)
          (u32 o.number ++ u8 o.unit ++ u8 o.state.code ++ u8 st.code ++ u8 cause ++ yesNo phrase) t
      let ended := fun (t : State) => t.order? h = none ∧ t.holdsNone o.unit (.order h)
        ∧ t.wos.orders.map OrderRec.handle = (s.wos.orders.filter (fun q => q.handle != h)).map OrderRec.handle
      let last := (o.text.length + 39) / 40
      (∀ i k text, e.content = .segment h i k text → o.state = .sending → o.stopOut = false →
        let t := s.tellAcknowledged a e
        (i + 1 < last → t.wos.orders = set (fun q => { q with segAcked := i + 1 })
          ∧ ((s.unit? o.unit).isSome = true → t.holds o.unit (.order h) (o.segment (i + 1)) o.priority.segmentClass
            (o.priority == .emergency)))
        ∧ (last ≤ i + 1 →
          (∃ o', t.order? h = some o' ∧ o' = { o with state := .delivered, segAcked := i + 1, resume := none })
          ∧ t.holdsNone o.unit (.order h) ∧ changed 0 .delivered 3 false t
          ∧ ∀ u before q after, s.unit? o.unit = some u → u.contact ≠ .signedOff →
            (∀ x ∈ s.wos.orders, x.unit = o.unit → x.handle ≠ h → x.state ≠ .sending) →
            s.wos.orders.filter (fun x => x.unit == o.unit && x.state == .posted) = before ++ q :: after →
            (∀ x ∈ before, x.priority.code < q.priority.code) → (∀ x ∈ after, x.priority.code ≤ q.priority.code) →
            q.stopOut = false → ∃ q', t.order? q.handle = some q' ∧ q'.state = .sending
              ∧ t.holds o.unit (.order q.handle) (q.segment q.segAcked) q.priority.segmentClass
                (q.priority == .emergency)))
      ∧ (∀ i k text, e.content = .segment h i k text →
        let t := s.tellUndelivered a e
        ended t ∧ changed 2 .failed 4 false t)
      ∧ (e.content = .orderNotice h .proceed → o.state = .proceeding → o.stopOut = false →
        let t := s.tellAcknowledged a e
        let back := s.tellUndelivered a e
        t.wos.orders = set (fun q => { q with state := .working, resume := none }) ∧ changed 0 .working 3 false t
          ∧ t.holdsNone o.unit (.order h)
          ∧ back.wos.orders = set (fun q => { q with state := .gated, resume := none }) ∧ changed 0 .gated 4 true back
          ∧ back.holdsNone o.unit (.order h))
      ∧ (e.content = .orderNotice h .stop →
        let t := s.tellAcknowledged a e
        t.wos.orders = set (fun q => { q with stopOut := false }) ∧ changed
            (if o.state = .failed ∨ o.state = .blocked then 2 else 0) o.state 3 true t
          ∧ (o.state = .stopped → t.units = s.units)
          ∧ (o.state = .sending → (s.unit? o.unit).isSome = true → t.holds o.unit (.order h) (o.segment o.segAcked)
            o.priority.segmentClass (o.priority == .emergency))
          ∧ s.tellUnacknowledged a e = s.raise .stopUndelivered (.order h) (u32 o.number ++ u8 o.unit ++ u8 2))
      ∧ (e.content = .orderNotice h .recall →
        let t := s.tellAcknowledged a e
        let given := s.tellUndelivered a e
        ended t ∧ changed 0 .recalled 3 false t ∧ ended given ∧ changed 0 .recalled 4 false given
          ∧ s.reported 0 .recallUndelivered (.order h) (u32 o.number ++ u8 o.unit ++ yesNo false) given
          ∧ s.tellUnacknowledged a e = s.raise .stopUndelivered (.order h) (u32 o.number ++ u8 o.unit ++ u8 3)))
    ∧ (∀ (tag : Byte) (n k : Nat) (o : OrderRec) (p : PermitRec) (s : State), s.lineIdle → s.numbersOk →
      s.orderNumbered? n = some o → o.state = .blocked → s.permit? k = some p → o.unit ∈ p.members →
      ∃ t o', exec (.relinkOrder tag n k) s = .next t ∧ t.order? o.handle = some o'
        ∧ o'.permit = some k ∧ o'.former = none ∧ o'.resume = none ∧ o'.segAcked = o.segAcked ∧ o'.text = o.text
        ∧ (o.resume = some .posted → o'.state = .posted ∨ o'.state = .sending)
        ∧ (o.resume = some .delivered → o'.state = .delivered) ∧ (o.resume = some .accepted → o'.state = .accepted)
        ∧ (o.resume = some .enRoute → o'.state = .enRoute)
        ∧ (o.resume = some .gated ∨ o.resume = some .proceeding ∨ o.resume = some .working
            ∨ o.resume = some .stopped →
          o'.state = if p.state = .active ∧ s.runState = .operating then .proceeding else .gated)
        ∧ (∀ q ∈ s.wos.orders, q.unit ≠ o.unit → q ∈ t.wos.orders)
        ∧ t.replies 0x32 tag .ok (u8 o'.state.code))
    ∧ ∀ (a h : Nat) (c : CrewState) (s : State),
      let ignored := fun mark : Nat => s.raise .orderStateIgnored (.order h) (u8 a ++ u8 c.code ++ u8 mark)
      (s.order? h = none → s.crewReport a h c = ignored 255)
      ∧ ∀ o, s.order? h = some o →
        (o.unit ≠ a → s.crewReport a h c = ignored 254)
        ∧ (o.unit = a →
          let linked := o.permit.isSome
          let site : OrderState → CrewEffect := fun st => if linked then .gate else .taken st
          let row : List CrewEffect :=
            match o.state with
            | .delivered => [.taken .accepted, .taken .enRoute, site .onSite, site .working,
              if linked then .ignored else .taken .complete, .taken .declined]
            | .accepted => [.again, .taken .enRoute, site .onSite, site .working,
              if linked then .ignored else .taken .complete, .taken .declined]
            | .enRoute => [.ignored, .again, site .onSite, site .working,
              if linked then .ignored else .taken .complete, .taken .declined]
            | .onSite => [.ignored, .ignored, .again, .taken .working, .taken .complete, .taken .declined]
            | .gated => [.ignored, .ignored, .gate, .ignored, .ignored, .taken .declined]
            | .proceeding | .stopped => [.ignored, .ignored, .again, .again, .ignored, .ignored]
            | .working => [.ignored, .ignored, .ignored, .again, .taken .complete, .ignored]
            | .blocked => [.ignored, .ignored, .ignored, .ignored, .ignored, .taken .declined]
            | _ => List.replicate 6 .ignored
          let t := s.crewReport a h c
          let changed := fun st : OrderState => s.reported 0 .orderState (.order h)
            (u32 o.number ++ u8 a ++ u8 o.state.code ++ u8 st.code ++ u8 2 ++ yesNo false) t
          let active := ∃ n p, o.permit = some n ∧ s.permit? n = some p ∧ p.state = .active
          (row[c.code - 1]? = some .ignored → t = ignored o.state.code)
          ∧ (row[c.code - 1]? = some .again → t = s)
          ∧ (∀ st, row[c.code - 1]? = some (.taken st) → st = .complete ∨ st = .declined →
            t.order? h = none ∧ t.holdsNone a (.order h) ∧ changed st
              ∧ t.wos.orders.map OrderRec.handle = (s.wos.orders.filter (fun q => q.handle != h)).map OrderRec.handle)
          ∧ (∀ st, row[c.code - 1]? = some (.taken st) → st ≠ .complete → st ≠ .declined →
            (∃ o', t.order? h = some o' ∧ o'.state = st) ∧ changed st
              ∧ t.wos.orders.filter (fun q => q.handle != h) = s.wos.orders.filter (fun q => q.handle != h))
          ∧ (row[c.code - 1]? = some .gate → active →
            (∃ o', t.order? h = some o' ∧ o'.state = .proceeding ∧ o'.stopOut = false) ∧ changed .proceeding
              ∧ ((s.unit? a).isSome = true → t.holds a (.order h) (.orderNotice h .proceed) 2 false))
          ∧ (row[c.code - 1]? = some .gate → ¬ active → o.state = .gated → t = s)
          ∧ (row[c.code - 1]? = some .gate → ¬ active → o.state ≠ .gated →
            (∃ o', t.order? h = some o' ∧ o'.state = .gated) ∧ changed .gated))

/-! ## Alarms -/

/-- ACK ALARM at the present raise count makes the record RESPONDING and drops its all-call; RESOLVE ALARM frees a
RESPONDING record and makes the worker OK. A wrong count or stage is refused and changes nothing, and so is an id or a
count out of range or an id that is not open; the numbers of the fields, the mark 255, 255 and the stage in WRONG_STATE
are the model's (logs 9, 10, 31). -/
def Obligations.AckAndResolveAlarm : Prop :=
  (∀ (tag : Byte) (a count : Nat) (r : AlarmRec) (s : State), s.lineIdle → s.runState = .operating →
      (s.als.alarms.map AlarmRec.id).Nodup → within 1 65535 a → within 1 255 count → s.alarm? a = some r →
      (r.raises = count → r.stage ≠ .responding →
        ∃ t r', exec (.ackAlarm tag a count) s = .next t ∧ t.alarm? a = some r'
          ∧ r'.case = { r with stage := .responding, windowEnd := none }.case
          ∧ r'.allCall = .notWanted ∧ r'.sent = r.sent
          ∧ (∀ e ∈ t.psc.broadcast, e.alarm ≠ a)
          ∧ (t.als.siteAlarm = true ↔ ∃ q ∈ s.als.alarms, q.id ≠ a ∧ q.stage = .unanswered)
          ∧ (∀ q ∈ s.als.alarms, q.id ≠ a → q.case ∈ t.als.alarms.map AlarmRec.case)
          ∧ s.reported 0 .alarmAcknowledged (.alarm a) (u8 r.raises ++ u8 r.stage.code ++ u16 r.sent) t
          ∧ t.replies 0x40 tag .ok (u8 3))
      ∧ (r.raises = count → r.stage = .responding → s.doublePollOk →
        exec (.ackAlarm tag a count) s = .next (s.replied 0x40 tag .ok (u8 3)))
      ∧ (r.raises ≠ count → s.doublePollOk →
        exec (.ackAlarm tag a count) s = .next (s.replied 0x40 tag .stale (u8 r.raises ++ u8 r.stage.code))))
    ∧ (∀ (tag : Byte) (a count : Nat) (s : State), s.lineIdle → s.doublePollOk → s.runState = .operating →
      (¬ within 1 65535 a → exec (.ackAlarm tag a count) s = .next (s.replied 0x40 tag .outOfRange (u8 1))
        ∧ exec (.resolveAlarm tag a) s = .next (s.replied 0x41 tag .outOfRange (u8 1)))
      ∧ (within 1 65535 a → ¬ within 1 255 count →
        exec (.ackAlarm tag a count) s = .next (s.replied 0x40 tag .outOfRange (u8 2)))
      ∧ (within 1 65535 a → within 1 255 count → s.alarm? a = none →
        exec (.ackAlarm tag a count) s = .next (s.replied 0x40 tag .stale (u8 255 ++ u8 255)))
      ∧ (within 1 65535 a → s.alarm? a = none →
        exec (.resolveAlarm tag a) s = .next (s.replied 0x41 tag .notFound (u16 a))))
    ∧ ∀ (tag : Byte) (a : Nat) (r : AlarmRec) (w : WorkerRec) (s : State), s.lineIdle → s.runState = .operating →
      s.deadlinesOk → s.rangesOk → within 1 65535 a → s.alarm? a = some r →
      (r.stage = .responding → s.worker? r.worker = some w →
        ∃ t w', exec (.resolveAlarm tag a) s = .next t ∧ t.alarm? a = none
          ∧ t.als.alarms.map AlarmRec.case = (s.als.alarms.filter (fun q => q.id != a)).map AlarmRec.case
          ∧ t.worker? r.worker = some w' ∧ w'.state = .ok
          ∧ w'.lastCheckin = some (max (w.lastCheckin.getD 0) s.now)
          ∧ s.reported 0 .alarmResolved (.alarm a) (u16 r.worker ++ u8 r.unit ++ u8 r.causes.code ++ u8 r.raises
            ++ u48 r.opened ++ u16 r.sent) t
          ∧ t.replies 0x41 tag .ok [])
      ∧ (r.stage ≠ .responding → s.doublePollOk →
        exec (.resolveAlarm tag a) s = .next (s.replied 0x41 tag .wrongState (u8 r.stage.code)))

/-! ## Switching -/

/-- DEFINE DEVICE adds the record; SET POSITION records a position, aborts a SENT or READ_BACK pending step, and
suspends every permit of the tag list when it leaves the device in violation. And what each is refused for, in the order
of its checks; the numbers of the fields and the code of the collection are the model's (log 9). -/
def Obligations.DefineDeviceAndSetPosition : Prop :=
  (∀ (tag : Byte) (n : Nat) (kind : DeviceKind) (name : List Byte) (pos : Position) (s : State), s.lineIdle →
      s.doublePollOk → within 1 65535 n → name.length ≤ 12 → (∀ b ∈ name, within 32 126 b.toNat) →
      s.device? n = none → s.swr.devices.length < 128 →
      ∃ devices : List DeviceRec,
        (⟨n, kind, name, pos, .defined, s.now, [], none⟩ : DeviceRec) ∈ devices
          ∧ devices.filter (fun d => d.number != n) = s.swr.devices
          ∧ ((s.swr.devices.map DeviceRec.number).Pairwise (· < ·) → (devices.map DeviceRec.number).Pairwise (· < ·))
          ∧ exec (.defineDevice tag n kind.code name pos.code) s =
            .next (({ s with swr.devices := devices } : State).replied 0x50 tag .ok
              (u16 n ++ u8 kind.code ++ textBytes name ++ u8 pos.code ++ u8 1 ++ u48 s.now ++ u8 0 ++ u8 0)))
    ∧ (∀ (tag : Byte) (n kind : Nat) (name : List Byte) (pos : Nat) (s : State), s.lineIdle → s.doublePollOk →
      let refused := fun (o : ReplyOutcome) (body : List Byte) =>
        exec (.defineDevice tag n kind name pos) s = .next (s.replied 0x50 tag o body)
      let kept := fun (o : ReplyOutcome) (body : List Byte) =>
        exec (.setPosition tag n pos) s = .next (s.replied 0x51 tag o body)
      let number := within 1 65535 n
      let sort := within 1 2 kind
      let label := name.length ≤ 12 ∧ ∀ b ∈ name, within 32 126 b.toNat
      let place := within 1 3 pos
      (¬ number → refused .outOfRange (u8 1) ∧ kept .outOfRange (u8 1))
      ∧ (number → ¬ sort → refused .outOfRange (u8 2))
      ∧ (number → sort → ¬ label → refused .outOfRange (u8 3))
      ∧ (number → sort → label → ¬ place → refused .outOfRange (u8 4))
      ∧ (number → sort → label → place →
        ((s.device? n).isSome = true → refused .exists_ (u16 n))
        ∧ (s.device? n = none → 128 ≤ s.swr.devices.length → refused .full (u8 5)))
      ∧ (number → ¬ place → kept .outOfRange (u8 2))
      ∧ (number → place → s.device? n = none → kept .notFound (u16 n)))
    ∧ (∀ (tag : Byte) (n : Nat) (d : DeviceRec) (pos : Position) (s : State), s.lineIdle → within 1 65535 n →
      s.device? n = some d → (∀ x, d.pendingStep.bind s.step? = some x → x.state ≠ .confirmed) →
      let violated := d.tags ≠ [] ∧ pos ≠ d.kind.held
      ∃ t d' aborted, exec (.setPosition tag n pos.code) s = .next t ∧ t.device? n = some d'
        ∧ d'.identity = d.identity ∧ d'.position = pos ∧ d'.source = .set ∧ d'.posTime = s.now ∧ d'.tags = d.tags
        ∧ (t.swr.devices.filter (fun q => q.number != n)).map (fun q => (q.identity, q.position, q.tags))
          = (s.swr.devices.filter (fun q => q.number != n)).map (fun q => (q.identity, q.position, q.tags))
        ∧ (∀ x, d.pendingStep.bind s.step? = some x → x.state = .sent ∨ x.state = .readBack →
          aborted = x.id ∧ t.step? x.id = none)
        ∧ ((∀ x, d.pendingStep.bind s.step? = some x → x.state = .queued) → aborted = 0
          ∧ t.swr.steps = s.swr.steps)
        ∧ (violated → ∀ p ∈ t.pmt.permits, p.number ∈ d.tags.map Tag.permit →
          p.state = .suspended ∧ p.control = false ∧ p.field = false ∧ p.lastCause = some (.tagViolation n))
        ∧ (¬ violated →
          t.pmt.permits.map PermitRec.authority = s.pmt.permits.map PermitRec.authority)
        ∧ (violated → s.reported 0 .tagViolation (.device n) (u8 pos.code ++ u8 d.kind.held.code ++ u8 2
          ++ u8 d.tags.length ++ d.tags.flatMap (fun g => u16 g.permit)) t)
        ∧ t.replies 0x51 tag .ok (u8 d.position.code ++ u8 pos.code ++ u8 aborted ++ yesNo (decide violated)))
    ∧ ∀ (tag : Byte) (n : Nat) (d : DeviceRec) (x : StepRec) (pos : Position) (s : State), s.lineIdle →
      s.doublePollOk → within 1 65535 n → s.device? n = some d → d.pendingStep.bind s.step? = some x →
      x.state = .confirmed →
      exec (.setPosition tag n pos.code) s = .next (s.replied 0x51 tag .wrongState (u8 x.id ++ u8 x.unit))

/-- QUEUE STEP adds a step behind those of its unit, sends it at once when it is the only one, and refuses a step that a
tag forbids. And what else it is refused for, in the order of its checks; the numbers of the fields, the code of the
collection and the code 5 of SIGNED_OFF are the model's (logs 9, 31). -/
def Obligations.QueueStep : Prop :=
  (∀ (tag : Byte) (n a : Nat) (op : Operation) (d : DeviceRec) (u : UnitRec) (s : State), s.lineIdle → s.doublePollOk →
    s.runState = .operating → s.numbersOk → within 1 65535 n → within 1 239 a →
    s.device? n = some d → s.unit? a = some u → d.pendingStep = none → u.contact ≠ .signedOff →
    (d.tags = [] ∨ op.gives = d.kind.held → s.swr.steps.length < 32 →
      ∃ t x, exec (.queueStep tag n op.code a) s = .next t ∧ t.swr.steps = s.swr.steps ++ [x]
        ∧ (x.id = s.swr.nextStep ∧ x.device = n ∧ x.operation = op ∧ x.unit = a ∧ x.queued = s.now
          ∧ x.awaited = false)
        ∧ (s.stepsOf a = [] → x.state = .sent ∧ x.readbacks = some s.psc.timing.r
          ∧ t.holds a (.step x.id) (.step x.id n op) 2 false)
        ∧ (s.stepsOf a ≠ [] → x.state = .queued ∧ x.readbacks = none ∧ t.units = s.units)
        ∧ t.swr.devices = s.swr.devices.map (fun q => if q.number = n then { q with pendingStep := some x.id } else q)
        ∧ t.replies 0x52 tag .ok (u8 x.id ++ u8 x.state.code ++ u8 ((s.stepsOf a).length + 1)))
    ∧ ∀ g rest, d.tags = g :: rest → op.gives ≠ d.kind.held →
      exec (.queueStep tag n op.code a) s = .next (s.replied 0x52 tag .interlock (u16 g.permit)))
    ∧ ∀ (tag : Byte) (n op a : Nat) (s : State), s.lineIdle → s.doublePollOk → s.runState = .operating →
      let refused := fun (o : ReplyOutcome) (body : List Byte) =>
        exec (.queueStep tag n op a) s = .next (s.replied 0x52 tag o body)
      let number := within 1 65535 n
      let work := within 1 2 op
      let addr := within 1 239 a
      (¬ number → refused .outOfRange (u8 1))
      ∧ (number → ¬ work → refused .outOfRange (u8 2))
      ∧ (number → work → ¬ addr → refused .outOfRange (u8 3))
      ∧ (number → work → addr →
        (s.device? n = none → refused .notFound (u16 n))
        ∧ ∀ d, s.device? n = some d →
          (s.unit? a = none → refused .notFound (u8 a))
          ∧ ∀ u, s.unit? a = some u →
            (∀ k x, d.pendingStep = some k → s.step? k = some x → refused .wrongState (u8 k ++ u8 x.state.code))
            ∧ (d.pendingStep = none → u.contact = .signedOff → refused .wrongState (u8 5))
            ∧ (d.pendingStep = none → u.contact ≠ .signedOff →
              d.tags = [] ∨ (if op = 1 then Position.opened else Position.closed) = d.kind.held →
              32 ≤ s.swr.steps.length → refused .full (u8 6)))

/-- CONFIRM STEP makes a READ_BACK step CONFIRMED and sends its STEP_GO, unless a tag forbids it; ABORT STEP ends a step
from any state, and leaves the device of a CONFIRMED one UNKNOWN. And what the switchman's items do: a READBACK is
compared once with the SENT step it answers, and a STEP_DONE of a CONFIRMED step records the position reported; any other
is discarded, or ignored with STEP_ITEM_IGNORED. And what the outcome of a step's frame does: an acknowledged STEP awaits
its read-back, and an undelivered STEP or STEP_GO aborts the step. The marks 255 and 254 and the numbers of the fields in a
refusal are the model's (logs 9, 10). -/
def Obligations.ConfirmAndAbortStep : Prop :=
  (∀ (tag : Byte) (id : Nat) (x : StepRec) (d : DeviceRec) (s : State), s.lineIdle → s.doublePollOk →
      s.runState = .operating → within 1 255 id → s.step? id = some x → x.state = .readBack →
      s.device? x.device = some d → (s.unit? x.unit).isSome = true →
      (d.tags = [] ∨ x.operation.gives = d.kind.held →
        ∃ t, exec (.confirmStep tag id) s = .next t
          ∧ t.swr.steps = s.swr.steps.map (fun q => if q.id = id then { q with state := .confirmed } else q)
          ∧ t.swr.devices = s.swr.devices ∧ t.holds x.unit (.step id) (.stepGo id) 2 false
          ∧ t.replies 0x53 tag .ok (u8 4))
      ∧ ∀ g rest, d.tags = g :: rest → x.operation.gives ≠ d.kind.held →
        exec (.confirmStep tag id) s = .next (s.replied 0x53 tag .interlock (u16 g.permit)))
    ∧ (∀ (tag : Byte) (id : Nat) (s : State), s.lineIdle → s.doublePollOk →
      let refused := fun (o : ReplyOutcome) (body : List Byte) =>
        exec (.confirmStep tag id) s = .next (s.replied 0x53 tag o body)
      let kept := fun (o : ReplyOutcome) (body : List Byte) =>
        exec (.abortStep tag id) s = .next (s.replied 0x54 tag o body)
      (¬ within 1 255 id → kept .outOfRange (u8 1))
      ∧ (within 1 255 id → s.step? id = none → kept .notFound (u8 id))
      ∧ (s.runState = .operating →
        (¬ within 1 255 id → refused .outOfRange (u8 1))
        ∧ (within 1 255 id → s.step? id = none → refused .notFound (u8 id))
        ∧ ∀ x, within 1 255 id → s.step? id = some x → x.state ≠ .readBack →
          refused .wrongState (u8 x.state.code)))
    ∧ (∀ (a id : Nat) (e : Entry) (s : State), e.source = .step id →
      (∀ k d op, e.content = .step k d op → s.tellAcknowledged a e
        = { s with swr.steps := s.swr.steps.map (fun q => if q.id = id then { q with awaited := true } else q) })
      ∧ (∀ k, e.content = .stepGo k → s.tellAcknowledged a e = s)
      ∧ ∀ x d, s.step? id = some x → s.device? x.device = some d →
        let t := s.tellUndelivered a e
        let violated := x.state = .confirmed ∧ d.tags ≠ []
        t.step? id = none ∧ t.holdsNone x.unit (.step id)
          ∧ s.reported 0 .stepAborted (.step id)
            (u16 x.device ++ u8 x.operation.code ++ u8 x.unit ++ u8 x.state.code ++ u8 3) t
          ∧ (∃ d', t.device? x.device = some d' ∧ d'.pendingStep = none ∧ d'.tags = d.tags
            ∧ (x.state = .confirmed → d'.position = .unknown ∧ d'.source = .abort ∧ d'.posTime = s.now)
            ∧ (x.state ≠ .confirmed → d'.position = d.position ∧ d'.source = d.source ∧ d'.posTime = d.posTime))
          ∧ (violated → ∀ p ∈ t.pmt.permits, p.number ∈ d.tags.map Tag.permit →
            p.state = .suspended ∧ p.lastCause = some (.tagViolation x.device))
          ∧ (¬ violated → t.pmt.permits.map PermitRec.authority = s.pmt.permits.map PermitRec.authority))
    ∧ (∀ (tag : Byte) (id : Nat) (x : StepRec) (d : DeviceRec) (s : State), s.lineIdle → within 1 255 id →
      s.step? id = some x → s.device? x.device = some d →
      let violated := x.state = .confirmed ∧ d.tags ≠ []
      ∃ t d', exec (.abortStep tag id) s = .next t ∧ t.step? id = none ∧ t.holdsNone x.unit (.step id)
        ∧ t.device? x.device = some d' ∧ d'.pendingStep = none ∧ d'.tags = d.tags
        ∧ (x.state = .confirmed → d'.position = .unknown ∧ d'.source = .abort ∧ d'.posTime = s.now)
        ∧ (x.state ≠ .confirmed → d'.position = d.position ∧ d'.source = d.source ∧ d'.posTime = d.posTime)
        ∧ (violated → ∀ p ∈ t.pmt.permits, p.number ∈ d.tags.map Tag.permit →
          p.state = .suspended ∧ p.lastCause = some (.tagViolation x.device))
        ∧ s.reported 0 .stepAborted (.step id)
          (u16 x.device ++ u8 x.operation.code ++ u8 x.unit ++ u8 x.state.code ++ u8 1) t
        ∧ t.replies 0x54 tag .ok (u8 x.state.code ++ u8 d'.position.code ++ yesNo (decide violated)))
    ∧ (∀ (a id device : Nat) (op : Operation) (s : State),
      let ignored := fun mark : Nat =>
        s.raise .stepItemIgnored (.step id) (u8 a ++ u8 4 ++ u8 id ++ u16 device ++ u8 op.code ++ u8 mark)
      (s.step? id = none → s.readback a id device op = ignored 255)
      ∧ ∀ x, s.step? id = some x →
        (x.unit ≠ a → s.readback a id device op = ignored 254)
        ∧ (x.unit = a → x.state ≠ .sent → s.readback a id device op = ignored x.state.code)
        ∧ (x.unit = a → x.state = .sent →
          let t := s.readback a id device op
          let same := device = x.device ∧ op = x.operation
          let left := x.readbacks.getD 0
          (x.awaited = false → t = s)
          ∧ (x.awaited = true → same →
            t.swr.steps = s.swr.steps.map (fun q =>
              if q.id = id then { q with awaited := false, state := .readBack } else q)
            ∧ t.swr.devices = s.swr.devices ∧ t.units = s.units
            ∧ ∀ d, s.device? x.device = some d → s.reported 0 .stepReadback (.step id)
              (u16 x.device ++ textBytes d.name ++ u8 x.operation.code ++ u8 a) t)
          ∧ (x.awaited = true → ¬ same → s.reported 0 .readbackMismatch (.step id)
            (u16 device ++ u8 op.code ++ u16 x.device ++ u8 x.operation.code ++ u8 left) t)
          ∧ (x.awaited = true → ¬ same → 1 < left →
            t.swr.steps = s.swr.steps.map (fun q =>
              if q.id = id then { q with awaited := false, readbacks := some (left - 1) } else q)
            ∧ ((s.unit? a).isSome = true → t.holds a (.step id) (.step id x.device x.operation) 2 false))
          ∧ (x.awaited = true → ¬ same → left ≤ 1 → t.step? id = none ∧ t.holdsNone a (.step id)
            ∧ s.reported 0 .stepAborted (.step id)
              (u16 x.device ++ u8 x.operation.code ++ u8 a ++ u8 2 ++ u8 2) t)))
    ∧ ∀ (a id : Nat) (pos : Position) (at_ : Millis) (s : State),
      let ignored := fun mark : Nat =>
        s.raise .stepItemIgnored (.step id) (u8 a ++ u8 5 ++ u8 id ++ u8 pos.code ++ u8 mark)
      (s.step? id = none → s.stepDone a id pos at_ = ignored 255)
      ∧ ∀ x, s.step? id = some x →
        (x.unit ≠ a → s.stepDone a id pos at_ = ignored 254)
        ∧ (x.unit = a → x.state ≠ .confirmed → s.stepDone a id pos at_ = ignored x.state.code)
        ∧ ∀ d, x.unit = a → x.state = .confirmed → s.device? x.device = some d →
          let t := s.stepDone a id pos at_
          let violated := d.tags ≠ [] ∧ pos ≠ d.kind.held
          t.step? id = none ∧ t.holdsNone a (.step id)
          ∧ (∃ d', t.device? x.device = some d' ∧ d'.identity = d.identity ∧ d'.position = pos ∧ d'.source = .step
            ∧ d'.posTime = at_ ∧ d'.tags = d.tags ∧ d'.pendingStep = none)
          ∧ s.reported 0 .stepDone (.step id) (u16 x.device ++ u8 x.operation.code ++ u8 d.position.code ++ u8 pos.code
            ++ yesNo (pos != x.operation.gives)) t
          ∧ (violated → (∀ p ∈ t.pmt.permits, p.number ∈ d.tags.map Tag.permit →
              p.state = .suspended ∧ p.control = false ∧ p.field = false ∧ p.lastCause = some (.tagViolation x.device))
            ∧ s.reported 0 .tagViolation (.device x.device) (u8 pos.code ++ u8 d.kind.held.code ++ u8 3 ++ u8 id
              ++ u8 d.tags.length ++ d.tags.flatMap (fun g => u16 g.permit)) t)
          ∧ (¬ violated → t.pmt.permits.map PermitRec.authority = s.pmt.permits.map PermitRec.authority)

/-! ## Permits -/

/-- DEFINE PERMIT adds a DRAFT; RESTORE PERMIT, in LOADING, adds an ACTIVE or SUSPENDED permit and tags its devices. And
what each is refused for, in the order of their checks, which they share; the bodies of the refusals and the order of
RESTORE PERMIT's checks are the model's (logs 9, 17). In PERMIT_STATE the mark 255 of no state before, the 0 of an absent
live serial and the code 1 of the cause DEFINE are too (log 10). -/
def Obligations.DefineAndRestorePermit : Prop :=
  (∀ (tag : Byte) (v : PermitArg) (s : State), s.lineIdle → s.doublePollOk → PermitFields v → s.definable v →
    let blank := ⟨v.holder, .holder, .noFrame, .notSent⟩ :: v.parties.map (fun a => (⟨a, .party, .noFrame, .notSent⟩ : Recipient))
    (∃ t, exec (.definePermit tag v) s = .next t
        ∧ t.pmt.permits = s.pmt.permits ++ [⟨v.number, v.holder, v.parties, v.points.map pointOf, .draft, false, false,
          none, blank, none, s.now, s.now⟩]
        ∧ t.swr = s.swr ∧ t.units = s.units
        ∧ s.reported 0 .permitState (.permit v.number) (u8 255 ++ u8 1 ++ u8 0 ++ u8 0 ++ u8 0 ++ u8 1) t
        ∧ t.replies 0x60 tag .ok [])
      ∧ (s.runState = .loading → s.issuable (v.points.map pointOf) →
        (∃ t, exec (.restorePermit tag v 1) s = .next t
          ∧ t.pmt.permits = s.pmt.permits ++ [⟨v.number, v.holder, v.parties, v.points.map pointOf, .active, true, true,
            none, blank, none, s.now, s.now⟩]
          ∧ t.swr.devices = s.tagged v.number (v.points.map pointOf) ∧ t.units = s.units
          ∧ t.replies 0x67 tag .ok [])
        ∧ ∃ t, exec (.restorePermit tag v 2) s = .next t
          ∧ t.pmt.permits = s.pmt.permits ++ [⟨v.number, v.holder, v.parties, v.points.map pointOf, .suspended, false,
            false, none, blank, some .restore, s.now, s.now⟩]
          ∧ t.swr.devices = s.tagged v.number (v.points.map pointOf) ∧ t.units = s.units
          ∧ t.replies 0x67 tag .ok []))
    ∧ ∀ (tag : Byte) (v : PermitArg) (s : State), s.lineIdle → s.doublePollOk →
      let restored := fun (st : Nat) (o : ReplyOutcome) (body : List Byte) =>
        exec (.restorePermit tag v st) s = .next (s.replied 0x67 tag o body)
      let refused := fun (o : ReplyOutcome) (body : List Byte) =>
        exec (.definePermit tag v) s = .next (s.replied 0x60 tag o body)
          ∧ (s.runState = .loading → ∀ st, within 1 2 st → restored st o body)
      let addrs := within 1 65535 v.number ∧ within 1 239 v.holder
      let parties := v.parties.length ≤ 3 ∧ (∀ a ∈ v.parties, within 1 239 a) ∧ (v.holder :: v.parties).Nodup
      (¬ within 1 65535 v.number → refused .outOfRange (u8 1 ++ u8 0))
      ∧ (within 1 65535 v.number → ¬ within 1 239 v.holder → refused .outOfRange (u8 2 ++ u8 0))
      ∧ (addrs → 3 < v.parties.length → refused .outOfRange (u8 3 ++ u8 0))
      ∧ (addrs → v.parties.length ≤ 3 → ∀ before a after, v.parties = before ++ a :: after →
        (∀ b ∈ before, within 1 239 b) → (v.holder :: before).Nodup → ¬ within 1 239 a ∨ a ∈ v.holder :: before →
        refused .outOfRange (u8 3 ++ u8 (before.length + 1)))
      ∧ (addrs → parties → ¬ within 1 8 v.points.length → refused .outOfRange (u8 4 ++ u8 0))
      ∧ (addrs → parties → within 1 8 v.points.length → ∀ before q after, v.points = before ++ q :: after →
        (∀ b ∈ before, within 1 65535 b.device ∧ within 1 2 b.position) → (before.map PointArg.device).Nodup →
        ¬ within 1 65535 q.device ∨ ¬ within 1 2 q.position ∨ q.device ∈ before.map PointArg.device →
        refused .outOfRange (u8 4 ++ u8 (before.length + 1)))
      ∧ (PermitFields v →
        (s.runState = .loading → ∀ st, ¬ within 1 2 st → restored st .outOfRange (u8 5 ++ u8 0))
        ∧ ((s.permit? v.number).isSome = true → refused .exists_ (u16 v.number))
        ∧ (s.permit? v.number = none →
          (∀ before a after, v.holder :: v.parties = before ++ a :: after → (∀ b ∈ before, (s.unit? b).isSome = true) →
            s.unit? a = none → refused .notFound (u8 a))
          ∧ ((∀ a ∈ v.holder :: v.parties, (s.unit? a).isSome = true) →
            (∀ before q after, v.points = before ++ q :: after →
              (∀ b ∈ before, (s.device? b.device).isSome = true) → s.device? q.device = none →
              refused .notFound (u16 q.device))
            ∧ ((∀ q ∈ v.points, (s.device? q.device).isSome = true) → ∀ u, s.unit? v.holder = some u →
              let fits := fun q : PointArg => ∃ d, s.device? q.device = some d ∧ (pointOf q).position = d.kind.held
              let isolator := ∃ q ∈ v.points, ∃ d, s.device? q.device = some d ∧ d.kind = .isolator
              (u.fleet = .visiting → refused .wrongState (u8 1))
              ∧ (u.fleet = .home →
                (∀ before q after, v.points = before ++ q :: after → (∀ b ∈ before, fits b) → ¬ fits q →
                  refused .wrongState (u8 2 ++ u8 (before.length + 1) ++ u16 q.device))
                ∧ ((∀ q ∈ v.points, fits q) → ¬ isolator → refused .wrongState (u8 3))
                ∧ ((∀ q ∈ v.points, fits q) → isolator → 24 ≤ s.pmt.permits.length → refused .full (u8 7)))))))
      ∧ (PermitFields v → s.definable v → s.runState = .loading → ∀ st, within 1 2 st → ∀ before q after,
        v.points = before ++ q :: after → s.issuable (before.map pointOf) → ∀ d, s.device? q.device = some d →
        let i := before.length + 1
        (d.position ≠ (pointOf q).position → restored st .interlock (u8 i ++ u16 q.device ++ u8 1))
        ∧ (d.position = (pointOf q).position →
          (∀ k x, d.pendingStep = some k → s.step? k = some x →
            restored st .wrongState (u8 i ++ u16 q.device ++ u8 2 ++ u8 k ++ u8 x.state.code))
          ∧ (d.pendingStep = none → 4 ≤ d.tags.length → restored st .full (u8 i ++ u16 q.device ++ u8 9))))

/-- ISSUE PERMIT tags the devices of a DRAFT and offers it, or offers an OFFERED one afresh; WITHDRAW PERMIT takes the
tags of an OFFERED one away and makes it a DRAFT, and frees a DRAFT, blocking its orders. And what each is refused for:
the first point that fails a check gives its index, its device and the reason. The 0 of an absent live serial in a reply,
the bodies of the refusals and the content of a re-offer's reply are the model's (logs 9, 10, 31, 33). -/
def Obligations.IssueAndWithdrawPermit : Prop :=
  (∀ (tag : Byte) (n : Nat) (r : PermitRec) (s : State), s.lineIdle → (s.pmt.permits.map PermitRec.number).Nodup →
    r.members.Nodup → s.permit? n = some r →
    let offer := fun a => Content.permitOffer n (if a = r.holder then .holder else .party) r.points
    (r.state = .draft → s.issuable r.points → (r.points.map Point.device).Nodup →
        ∃ t p, exec (.issuePermit tag n) s = .next t ∧ t.permit? n = some p ∧ p.state = .offered ∧ p.control = true
          ∧ p.field = false ∧ p.changed = s.now ∧ p.members = r.members ∧ p.points = r.points
          ∧ t.swr.devices = s.tagged n r.points ∧ t.allHold r offer 2
          ∧ t.replies 0x61 tag .ok (u8 2 ++ u8 (p.live.getD 0)))
      ∧ (r.state = .offered →
        (∃ t p, exec (.issuePermit tag n) s = .next t ∧ t.permit? n = some p ∧ p.state = .offered
          ∧ p.control = r.control ∧ p.field = false ∧ p.members = r.members ∧ p.points = r.points
          ∧ t.swr.devices = s.swr.devices ∧ t.allHold r offer 2
          ∧ t.replies 0x61 tag .ok (u8 2 ++ u8 (p.live.getD 0)))
        ∧ ∃ t p, exec (.withdrawPermit tag n) s = .next t ∧ t.permit? n = some p ∧ p.state = .draft
          ∧ p.control = false ∧ p.field = false ∧ p.live = none ∧ p.members = r.members ∧ p.points = r.points
          ∧ t.swr.devices = s.untagged n r.points ∧ t.allHold r (fun _ => .permitNotice n .withdrawn) 2
          ∧ t.replies 0x62 tag .ok [])
      ∧ (r.state = .draft → s.numbersOk →
        ∃ t k, exec (.withdrawPermit tag n) s = .next t ∧ t.permit? n = none
          ∧ k = (r.members.filter (fun a => (s.unit? a).any (fun u =>
            u.outbox.any (fun e => e.source == .permit n) || u.waiting.any (fun d => d.source == .permit n)))).length
          ∧ (∀ a ∈ r.members, t.holdsNone a (.permit n))
          ∧ (∀ o ∈ s.wos.orders, o.permit = some n → ∃ o' ∈ t.wos.orders, o'.handle = o.handle ∧ o'.permit = none
            ∧ o'.former = some n ∧ (o.state ≠ .recalling → o'.state = .blocked)
            ∧ (o.state = .recalling → o'.state = .recalling))
          ∧ k ≤ r.members.length ∧ t.replies 0x62 tag .ok (u8 k)))
    ∧ ∀ (tag : Byte) (n : Nat) (s : State), s.lineIdle → s.doublePollOk →
      let issue := fun (o : ReplyOutcome) (body : List Byte) =>
        exec (.issuePermit tag n) s = .next (s.replied 0x61 tag o body)
      let withdraw := fun (o : ReplyOutcome) (body : List Byte) =>
        exec (.withdrawPermit tag n) s = .next (s.replied 0x62 tag o body)
      (s.permit? n = none → issue .notFound (u16 n) ∧ withdraw .notFound (u16 n))
      ∧ ∀ r, s.permit? n = some r →
        (r.state ≠ .draft → r.state ≠ .offered →
          issue .wrongState (u8 r.state.code) ∧ withdraw .wrongState (u8 r.state.code))
        ∧ (r.state = .draft → ∀ before q after, r.points = before ++ q :: after → s.issuable before →
          let i := before.length + 1
          (s.device? q.device = none → issue .notFound (u16 q.device))
          ∧ ∀ d, s.device? q.device = some d →
            (d.position ≠ q.position → issue .interlock (u8 i ++ u16 q.device ++ u8 1))
            ∧ (d.position = q.position →
              (∀ k x, d.pendingStep = some k → s.step? k = some x →
                issue .wrongState (u8 i ++ u16 q.device ++ u8 2 ++ u8 k ++ u8 x.state.code))
              ∧ (d.pendingStep = none → 4 ≤ d.tags.length → issue .full (u8 i ++ u16 q.device ++ u8 9))))

/-- SUSPEND PERMIT clears both flags, sends SUSPENDED and stops the permit's orders; RESUME PERMIT confirms control
again, and the permit becomes ACTIVE when the field has confirmed too. And what a PERMIT_ACCEPT item does: the holder's,
with the live serial and the count of points, confirms the field; any other is stale, a repeat, or ignored. And what
the outcome of one of a permit's frames does: the delivery, OFFER_UNDELIVERED and NOTICE_UNDELIVERED. The 0 of an absent
live serial, the mark 255 of no record and the bodies of the refusals are the model's (logs 10, 9, 31). -/
def Obligations.SuspendAndResumePermit : Prop :=
  (∀ (tag : Byte) (n : Nat) (r : PermitRec) (s : State), s.lineIdle → (s.pmt.permits.map PermitRec.number).Nodup →
    r.members.Nodup → s.permit? n = some r →
    (r.state = .active ∨ r.state = .suspended ∨ r.state = .surrenderPending →
        ∃ t p, exec (.suspendPermit tag n) s = .next t ∧ t.permit? n = some p ∧ p.state = .suspended
          ∧ p.control = false ∧ p.field = false ∧ p.lastCause = some .request
          ∧ p.changed = (if r.state = .suspended ∧ r.control = false ∧ r.field = false then r.changed else s.now)
          ∧ t.swr = s.swr ∧ t.allHold r (fun _ => .permitNotice n .suspended) 3
          ∧ (r.state ≠ .suspended → s.numbersOk → ∀ o ∈ s.wos.orders, o.permit = some n →
            o.state = .proceeding ∨ o.state = .working →
            ∃ o' ∈ t.wos.orders, o'.handle = o.handle ∧ o'.state = .stopped ∧ o'.stopOut = true)
          ∧ t.replies 0x63 tag .ok (u8 4 ++ u8 (p.live.getD 0)))
      ∧ (r.state = .suspended → s.doublePollOk → ∀ before q after, r.points = before ++ q :: after →
        (∀ b ∈ before, ∃ d, s.device? b.device = some d ∧ d.position = b.position) →
        (∀ d, s.device? q.device = some d → d.position ≠ q.position) →
        exec (.resumePermit tag n) s
          = .next (s.replied 0x64 tag .interlock (u8 (before.length + 1) ++ u16 q.device)))
      ∧ (r.state ≠ .suspended → s.doublePollOk →
        exec (.resumePermit tag n) s = .next (s.replied 0x64 tag .wrongState (u8 r.state.code)))
      ∧ (r.state = .suspended → (∀ q ∈ r.points, ∃ d, s.device? q.device = some d ∧ d.position = q.position) →
        (r.control = true → s.doublePollOk → exec (.resumePermit tag n) s = .next (s.replied 0x64 tag .ok []))
        ∧ (r.control = false → ∃ t p, exec (.resumePermit tag n) s = .next t ∧ t.permit? n = some p
          ∧ p.control = true ∧ p.field = r.field ∧ p.state = (if r.field then .active else .suspended)
          ∧ p.changed = s.now ∧ t.swr = s.swr
          ∧ (r.field = true → t.allHold r (fun _ => .permitNotice n .active) 2)
          ∧ t.replies 0x64 tag .ok [])))
    ∧ (∀ (tag : Byte) (n : Nat) (s : State), s.lineIdle → s.doublePollOk →
      (s.permit? n = none → exec (.suspendPermit tag n) s = .next (s.replied 0x63 tag .notFound (u16 n))
        ∧ exec (.resumePermit tag n) s = .next (s.replied 0x64 tag .notFound (u16 n)))
      ∧ ∀ r, s.permit? n = some r → r.state = .draft ∨ r.state = .offered →
        exec (.suspendPermit tag n) s = .next (s.replied 0x63 tag .wrongState (u8 r.state.code)))
    ∧ (∀ (a n : Nat) (e : Entry) (s : State), e.source = .permit n →
      let marked := fun (v : Delivery) => ({ s with pmt.permits := s.pmt.permits.map (fun p =>
        if p.number = n then
          { p with recipients := p.recipients.map (fun q => if q.unit = a then { q with delivery := v } else q) }
        else p) } : State)
      s.tellAcknowledged a e = marked .acknowledged
        ∧ (∀ k role points, e.content = .permitOffer k role points → s.tellUndelivered a e
          = (marked .undelivered).raise .offerUndelivered (.permit n) (u8 a ++ u8 role.code ++ u8 e.serial))
        ∧ ∀ k notice, e.content = .permitNotice k notice →
          let detail := u8 a ++ u8 notice.code ++ u8 e.serial ++ yesNo false
          s.tellUndelivered a e = (marked .undelivered).raise .noticeUndelivered (.permit n) detail
            ∧ s.tellUnacknowledged a e = s.raise .noticeUndelivered (.permit n) detail)
    ∧ ∀ (a n count serial : Nat) (s : State), (s.pmt.permits.map PermitRec.number).Nodup →
      let ignored := fun mark : Nat => s.raise .permitItemIgnored (.permit n)
        (u8 a ++ u8 6 ++ u16 n ++ u8 count ++ u8 serial ++ u8 mark)
      (s.permit? n = none → s.permitAccept a n count serial = ignored 255)
      ∧ ∀ r, s.permit? n = some r →
        (r.holder ≠ a → s.permitAccept a n count serial = ignored r.state.code)
        ∧ (r.holder = a →
          let matching := r.live = some serial ∧ count = r.points.length
          (¬ matching ∨ r.state = .draft → s.permitAccept a n count serial = s.raise .staleAccept (.permit n)
            (u8 serial ++ u8 count ++ u8 (r.live.getD 0) ++ u8 r.state.code))
          ∧ (matching → r.state = .active ∨ r.state = .surrenderPending ∨ (r.state = .suspended ∧ r.field = true) →
            s.permitAccept a n count serial = s)
          ∧ (matching → r.state = .offered ∨ (r.state = .suspended ∧ r.field = false) →
            let t := s.permitAccept a n count serial
            (∃ p, t.permit? n = some p ∧ p.field = true ∧ p.control = r.control ∧ p.changed = s.now ∧ p.live = r.live
              ∧ p.members = r.members ∧ p.points = r.points
              ∧ p.state = (if r.control then .active else r.state)
              ∧ (r.control = false → ∀ q ∈ p.recipients, q.unit = a → q.delivery = .acknowledged))
            ∧ t.swr = s.swr
            ∧ (r.control = false → r.state = .suspended → t.holdsNone a (.permit n))
            ∧ (r.control = true → r.members.Nodup → t.allHold r (fun _ => .permitNotice n .active) 2)
            ∧ (r.control = true → s.runState = .operating → s.numbersOk → ∀ o ∈ s.wos.orders, o.permit = some n →
              o.state = .gated ∨ o.state = .stopped →
              ∃ o' ∈ t.wos.orders, o'.handle = o.handle ∧ o'.state = .proceeding ∧ o'.stopOut = false)
            ∧ (r.control = true → s.reported 0 .permitState (.permit n)
              (u8 r.state.code ++ u8 3 ++ u8 1 ++ u8 1 ++ u8 serial ++ u8 5) t)))

/-- CONFIRM SURRENDER and FORCE CANCEL close a permit: its tags and its record go, its orders are blocked, and with FORCE
CANCEL those under way hold a STOP. Both are refused while a member has an open alarm. Every member then holds a CLOSED notice,
or an item of the closing list stands for it, or the notice was dropped from a full list; NOTICE_UNDELIVERED then gives
the serial 0 (the model's choice, log 10), and nothing is told of a CLOSED copy's outcome. A state that does not allow the
request is given by its code (log 31), a reason by its place in the rule's list (log 9). And what a PERMIT_SURRENDER item
of the holder does (its ignored form: log 10). -/
def Obligations.CloseAPermit : Prop :=
  (∀ (tag : Byte) (n : Nat) (r : PermitRec) (s : State), s.lineIdle → (s.pmt.permits.map PermitRec.number).Nodup →
    s.numbersOk → s.permit? n = some r →
    let closed := fun (force : Bool) (t : State) =>
      t.permit? n = none ∧ t.swr.devices = s.untagged n r.points
        ∧ ∀ o ∈ s.wos.orders, o.permit = some n → ∃ o' ∈ t.wos.orders, o'.handle = o.handle ∧ o'.permit = none
          ∧ o'.former = some n ∧ (o.state = .recalling → o'.state = .recalling)
          ∧ (o.state ≠ .recalling → o'.state = .blocked)
          ∧ (force = true → o.state = .proceeding ∨ o.state = .working →
            o'.stopOut = true ∧ o'.resume = some .stopped
              ∧ ((s.unit? o.unit).isSome = true → t.holds o.unit (.order o.handle) (.orderNotice o.handle .stop) 3 false))
    let clear := ∀ x ∈ s.als.alarms, x.unit ∉ r.members
    let after := s.withdrawFrames r
    let noticed := fun (t : State) => ∀ a ∈ r.members,
      (∃ u ∈ t.units, u.addr = a ∧ ∃ e ∈ u.outbox, e.source = .closedCopy n ∧ e.content = .permitNotice n .closed
        ∧ e.cls = 2)
      ∨ (⟨n, a, s.now⟩ : ClosingItem) ∈ t.pmt.closing
      ∨ (after.slotFree a = false ∧ s.reported 0 .noticeUndelivered (.permit n) (u8 a ++ u8 3 ++ u8 0 ++ u8 1) t)
    let defined := r.members.Nodup ∧ ∀ a ∈ r.members, (s.unit? a).isSome = true
    let free := (r.members.filter (fun a => after.slotFree a)).length
    let room := min (96 - after.pmt.closing.length) (r.members.length - free)
    (r.state = .surrenderPending → clear →
        ∃ t entered listed, exec (.confirmSurrender tag n) s = .next t ∧ closed false t
          ∧ entered + listed ≤ r.members.length ∧ (defined → entered = free ∧ listed = room ∧ noticed t)
          ∧ t.replies 0x65 tag .ok (u8 entered ++ u8 listed))
      ∧ (r.state = .surrenderPending → ¬ clear → s.doublePollOk →
        ∃ x rest, s.als.alarms.filter (fun x => decide (x.unit ∈ r.members)) = x :: rest
          ∧ exec (.confirmSurrender tag n) s = .next (s.replied 0x65 tag .wrongState (u8 1 ++ u16 x.id ++ u8 x.unit)))
      ∧ (r.state ≠ .surrenderPending → s.doublePollOk →
        exec (.confirmSurrender tag n) s = .next (s.replied 0x65 tag .wrongState (u8 r.state.code)))
      ∧ (r.state ≠ .draft → (∃ u, s.unit? r.holder = some u ∧ u.contact = .lost) → clear →
        ∃ t entered listed, exec (.forceCancel tag n) s = .next t ∧ closed true t
          ∧ entered + listed ≤ r.members.length ∧ (defined → entered = free ∧ listed = room ∧ noticed t)
          ∧ t.replies 0x66 tag .ok (u8 (s.wos.orders.filter (fun o =>
            o.permit == some n && (o.state == .proceeding || o.state == .working))).length
              ++ u8 entered ++ u8 listed))
      ∧ (r.state ≠ .draft → (∀ u, s.unit? r.holder = some u → u.contact ≠ .lost) ∨ ¬ clear → s.doublePollOk →
        ∃ body, exec (.forceCancel tag n) s = .next (s.replied 0x66 tag .wrongState body))
      ∧ (s.doublePollOk →
        (r.state = .draft → exec (.forceCancel tag n) s = .next (s.replied 0x66 tag .wrongState (u8 1)))
        ∧ ∀ u, r.state ≠ .draft → s.unit? r.holder = some u →
          (u.contact ≠ .lost →
            exec (.forceCancel tag n) s = .next (s.replied 0x66 tag .wrongState (u8 1 ++ u8 u.contact.code)))
          ∧ ∀ x rest, u.contact = .lost → s.als.alarms.filter (fun x => decide (x.unit ∈ r.members)) = x :: rest →
            exec (.forceCancel tag n) s = .next (s.replied 0x66 tag .wrongState (u8 2 ++ u16 x.id ++ u8 x.unit))))
    ∧ (∀ (tag : Byte) (n : Nat) (s : State), s.lineIdle → s.doublePollOk → s.permit? n = none →
      exec (.confirmSurrender tag n) s = .next (s.replied 0x65 tag .notFound (u16 n))
        ∧ exec (.forceCancel tag n) s = .next (s.replied 0x66 tag .notFound (u16 n)))
    ∧ (∀ (a n : Nat) (e : Entry) (s : State), e.source = .closedCopy n →
      s.tellAcknowledged a e = s ∧ s.tellUndelivered a e = s ∧ s.tellUnacknowledged a e = s)
    ∧ (∀ (n a : Nat) (u : UnitRec) (s : State), s.unit? a = some u →
      let slot := u.contact ≠ .signedOff ∧ u.outbox.length < 4
      (slot → (∃ v ∈ (s.placeClosed n a).units, v.addr = a ∧ v.outbox = u.outbox
          ++ [⟨.closedCopy n, .permitNotice n .closed, 2, false, u.nextSerial, s.now, s.psc.timing.r, false, false⟩])
        ∧ (s.placeClosed n a).pmt = s.pmt)
      ∧ (¬ slot → s.pmt.closing.length < 96 →
        s.placeClosed n a = { s with pmt.closing := s.pmt.closing ++ [⟨n, a, s.now⟩] })
      ∧ (¬ slot → 96 ≤ s.pmt.closing.length →
        s.placeClosed n a = s.raise .noticeUndelivered (.permit n) (u8 a ++ u8 3 ++ u8 0 ++ u8 1)))
    ∧ ∀ (a n : Nat) (s : State),
      let ignored := fun mark : Nat => s.raise .permitItemIgnored (.permit n) (u8 a ++ u8 7 ++ u16 n ++ u8 mark)
      (s.permit? n = none → s.permitSurrender a n = ignored 255)
      ∧ ∀ r, s.permit? n = some r →
        let alarms := s.als.alarms.filter (fun x => decide (x.unit ∈ r.members))
        let working := s.wos.orders.filter (fun o =>
          o.permit == some n && (o.state == .proceeding || o.state == .working))
        (r.holder ≠ a ∨ r.state = .draft ∨ r.state = .offered → s.permitSurrender a n = ignored r.state.code)
        ∧ (r.holder = a → r.state = .surrenderPending → s.permitSurrender a n = s)
        ∧ (r.holder = a → r.state = .active ∨ r.state = .suspended →
          (∀ x rest, alarms = x :: rest → s.permitSurrender a n = s.raise .surrenderRefused (.permit n)
            (u8 1 ++ u8 alarms.length ++ u16 x.id ++ u8 x.unit))
          ∧ (∀ o rest, alarms = [] → working = o :: rest → s.permitSurrender a n
            = s.raise .surrenderRefused (.permit n) (u8 2 ++ u8 working.length ++ u16 o.handle))
          ∧ (alarms = [] → working = [] → s.permitSurrender a n =
            ({ s with pmt.permits := s.pmt.permits.map (fun p =>
              if p.number = n then { p with state := .surrenderPending, changed := s.now } else p) } : State).raise
                .permitState (.permit n)
                (u8 r.state.code ++ u8 5 ++ yesNo r.control ++ yesNo r.field ++ u8 (r.live.getD 0) ++ u8 9)))

/-! ## GO and RESTART RADIO -/

/-- GO opens the channel, sends the frames the permits call for, moves the orders held under ACTIVE permits to
PROCEEDING, starts the units and the workers, and begins the first cycle, which polls every signed-on unit once; without
a rate table or sync words it is refused. The 4 bytes of the estimate in the reply are the model's choice (log 8). -/
def Obligations.GoOpensTheChannel : Prop :=
  ∀ (tag : Byte) (s : State), s.lineIdle → s.runState = .loading →
    (s.ale.rateTable ≠ [] → s.ale.syncA.isSome = true → s.ale.syncB.isSome = true →
      s.loadingOk → s.deadlinesOk → s.rangesOk →
      ∃ t, exec (.go tag) s = .next t ∧ t.runState = .operating ∧ t.ale.rxEnabled = true
        ∧ t.psc.cycleState ≠ .stopped
        ∧ (s.psc.cycleNumber ≠ BitVec.allOnes 32 → t.psc.cycleNumber = s.psc.cycleNumber + 1)
        ∧ t.units.map UnitRec.standing = s.units.map (fun u =>
          if u.contact = .signedOff then u.standing
          else { u with contact := .neverHeard, budget := s.psc.timing.n, heard := false }.standing)
        ∧ (∀ w ∈ s.lwm.workers, ∃ w' ∈ t.lwm.workers, w'.place = w.place
          ∧ ((∃ u, s.unit? w.unit = some u ∧ u.contact ≠ .signedOff) →
            w'.state = .ok ∧ w'.lastCheckin = some (max (w.lastCheckin.getD 0) s.now))
          ∧ ((∃ u, s.unit? w.unit = some u ∧ u.contact = .signedOff) → w'.state = .inactive))
        ∧ t.pmt.permits.map PermitRec.authority = s.pmt.permits.map PermitRec.authority
        ∧ ((s.pmt.permits.map PermitRec.number).Nodup → ∀ r ∈ s.pmt.permits,
          (r.state = .offered →
            t.allHold r (fun a => .permitOffer r.number (if a = r.holder then .holder else .party) r.points) 2)
          ∧ (r.state = .active → t.allHold r (fun _ => .permitNotice r.number .active) 2)
          ∧ (r.state = .suspended → t.allHold r (fun _ => .permitNotice r.number .suspended) 3))
        ∧ (s.numbersOk →
          let held := fun o : OrderRec => (o.state == .gated || o.state == .stopped)
            && s.pmt.permits.any (fun p => o.permit == some p.number && p.state == .active)
          t.wos.orders = s.wos.orders.map (fun o =>
            if held o then { o with state := .proceeding, stopOut := false, resume := none } else o)
          ∧ ∀ o ∈ s.wos.orders, held o = true →
            ((s.unit? o.unit).isSome = true → t.holds o.unit (.order o.handle) (.orderNotice o.handle .proceed) 2 false)
            ∧ ∀ n, o.permit = some n → s.reported 0 .orderState (.order o.handle)
              (u32 o.number ++ u8 o.unit ++ u8 o.state.code ++ u8 8 ++ u8 5 ++ u16 n ++ yesNo false) t)
        ∧ (t.psc.cycle = ⟨s.psc.timing.k, s.psc.timing.t, s.psc.timing.b⟩ ∧ t.psc.probeCandidate = none
          ∧ t.psc.probeAllowance = 0 ∧ t.psc.estimateInForce = s.psc.estimate
          ∧ t.psc.cycleBound = s.now + s.psc.estimate)
        ∧ (s.doublePollOk → t.psc.pollList = (s.units.filter (fun u => u.contact != .signedOff)).map (fun u =>
          ⟨u.addr, s.ale.window s.psc.timing.k s.psc.timing.t u.cls, u.fleet, false⟩))
        ∧ t.replies 0x01 tag .ok (u48 s.now ++ u32 s.psc.estimate
          ++ u8 (s.lwm.workers.filter (fun w => (s.unit? w.unit).any (fun u => u.contact != .signedOff))).length
          ++ u8 (s.pmt.permits.filter (fun p =>
            p.state == .offered || p.state == .active || p.state == .suspended)).length
          ++ u8 (((s.pmt.permits.filter (fun p => p.state == .active)).map (fun p => (s.wos.orders.filter (fun o =>
            o.permit == some p.number && (o.state == .gated || o.state == .stopped))).length)).sum)))
      ∧ (s.doublePollOk → s.ale.rateTable = [] → exec (.go tag) s = .next (s.replied 0x01 tag .wrongState (u8 1)))
      ∧ (s.doublePollOk → s.ale.rateTable ≠ [] → s.ale.syncA = none ∨ s.ale.syncB = none →
        exec (.go tag) s = .next (s.replied 0x01 tag .wrongState (u8 2)))

/-- What the start of a cycle fixes, in RESTART RADIO and at the end of the open window, which may be taken late (the
model's choice, log 5): its number, timing, poll list with the allowances, probe candidate and allowance, estimate in force
and bound, and no entry awaiting an acknowledgement; the budget left is then B, and the first pick is made. The 4 bytes of
the estimate in the reply are the model's choice (log 8). And what a pick sends, the POLL, the ALLCALL and the entry's
frame that ALE is given, and when a poll or probe window is begun, skipped or passed over. -/
def Obligations.CycleStarts : Prop :=
  let fixed := fun (s t : State) (estimate : Nat) =>
    let v := s.psc.timing
    let lost := (s.units.filter (fun u => u.contact == .lost)).map UnitRec.addr
    (s.psc.cycleNumber ≠ BitVec.allOnes 32 → t.psc.cycleNumber = s.psc.cycleNumber + 1)
      ∧ t.psc.cycle = ⟨v.k, v.t, v.b⟩
      ∧ t.psc.estimateInForce = estimate ∧ t.psc.cycleBound = s.now + estimate
      ∧ t.psc.pollList = (s.pollables ++ s.pollables.filter (fun u => s.psc.doublePoll.contains u.addr)).map
          (fun u => ⟨u.addr, s.ale.window v.k v.t u.cls, u.fleet, false⟩)
      ∧ (∀ a, t.psc.probeCandidate = some a → a ∈ lost
        ∧ ((s.units.map UnitRec.addr).Pairwise (· < ·) →
          ((∃ b ∈ lost, s.psc.probePointer < b) →
            s.psc.probePointer < a ∧ ∀ b ∈ lost, s.psc.probePointer < b → a ≤ b)
          ∧ ((∀ b ∈ lost, b ≤ s.psc.probePointer) → ∀ b ∈ lost, a ≤ b)))
      ∧ (t.psc.probeCandidate = none → lost = [])
      ∧ (lost = [] → t.psc.probeAllowance = 0)
      ∧ (∀ u ∈ s.units, u.contact = .lost → (∀ x ∈ s.units, x.contact = .lost → x.cls ≤ u.cls) →
        t.psc.probeAllowance = s.ale.window v.k v.t u.cls)
      ∧ (estimate = s.estimateNow → estimate = (t.psc.pollList.map PollEntry.allowance).sum + t.psc.probeAllowance
        + s.ale.openWindow v.k v.t + v.b)
      ∧ (∀ u ∈ t.units, ∀ e ∈ u.outbox, e.awaiting = false)
      ∧ t.units.map UnitRec.standing = s.units.map UnitRec.standing
  let fresh := fun (s u : State) => u.psc.cycleState = .traffic ∧ u.psc.budgetLeft = s.psc.timing.b
    ∧ u.psc.pollNext = 0 ∧ u.psc.window = none ∧ u.psc.polled = [] ∧ u.psc.matched = []
  let keyed := fun (f : TxFrame) (s : State) => ({ s with
    ale.txState := .keyup, ale.txFrame := some f, ale.pttTime := s.now, ale.rxState := .hunt
    ale.carrierWait := true } : State)
  (∀ (tag : Byte) (s : State), s.lineIdle → s.runState = .operating →
      ∃ t, exec (.restartRadio tag) s = .next t ∧ fixed s t s.estimateNow
        ∧ t.ale.rateTable = s.ale.rateTable ∧ t.ale.syncA = s.ale.syncA ∧ t.ale.syncB = s.ale.syncB
        ∧ t.ale.counters = s.ale.counters ∧ t.ale.rxState = .hunt ∧ t.ale.carrierWait = true
        ∧ t.ale.txState ≠ .sending ∧ t.als.siteAlarm = s.als.siteAlarm
        ∧ t.replies 0x02 tag .ok (u32 s.estimateNow))
    ∧ (∀ s : State, s.psc.cycleState = .openWindow → s.psc.openEnd ≤ s.now →
      ∃ t, exec .openWindowEnd s = .next t ∧ fixed s t s.psc.estimate)
    ∧ (∀ (tag : Byte) (s : State), s.lineIdle → s.runState = .operating →
      ∃ u, fixed s u s.estimateNow ∧ fresh s u
        ∧ exec (.restartRadio tag) s = .next (u.pickTraffic.settle.replied 0x02 tag .ok (u32 s.estimateNow)))
    ∧ (∀ s : State, s.psc.cycleState = .openWindow → s.psc.openEnd ≤ s.now →
      ∃ u, fixed s u s.psc.estimate ∧ fresh s u ∧ exec .openWindowEnd s = .next u.pickTraffic)
    ∧ (∀ (u : UnitRec) (probe : Bool) (s : State), s.beginWindow u probe
      = keyed ⟨.poll, u.addr, 0x01, [BitVec.ofNat 8 (s.psc.cycleNumber.toNat % 256)], u.cls,
          if u.fleet = .home then .a else .b⟩ { s with
        psc.window := some ⟨u.addr, probe, s.now, s.ale.window s.psc.cycle.k s.psc.cycle.t u.cls, none, false⟩
        psc.polled := s.psc.polled ++ [u.addr] })
    ∧ (∀ (u : UnitRec) (e : Entry) (s : State), s.giveFrame (.entry u e)
      = keyed ⟨.entry u.addr, u.addr, e.content.frameKind, e.content.body e.serial, u.cls,
          if u.fleet = .home then .a else .b⟩ { s with
        units := s.units.map (fun x =>
          if x.addr = u.addr then
            { x with outbox := x.outbox.map (fun y => if y.serial = e.serial then { y with onAir := true } else y) }
          else x) })
    ∧ (∀ (c : CallEntry) (r : AlarmRec) (s : State), s.alarm? c.alarm = some r → s.giveFrame (.call c)
      = keyed ⟨.allCall (s.psc.pollList.any (fun e => e.fleet == .visiting)), 255, 0x09,
          u16 c.alarm ++ u8 r.unit ++ u8 r.slot ++ u8 r.causes.code, s.ale.rateTable.length - 1, .a⟩ { s with
        psc.broadcast := s.psc.broadcast.map (fun x => if x.alarm = c.alarm then { x with onAir := true } else x)
        als.alarms := s.als.alarms.map (fun q => if q.id = c.alarm then { q with allCall := .onAir } else q) })
    ∧ (∀ (s : State) (c : Candidate) (before after : List Candidate),
      s.psc.broadcast.map Candidate.call
          ++ s.units.flatMap (fun u => (u.outbox.filter (fun e => s.eligible u e)).map (Candidate.entry u))
        = before ++ c :: after →
      (∀ x ∈ before, x.cls < c.cls ∨ (x.cls = c.cls ∧ c.time < x.time)) →
      (∀ x ∈ after, x.cls < c.cls ∨ (x.cls = c.cls ∧ c.time ≤ x.time)) →
      let cost :=
        match c with
        | .call _ =>
          (if ∃ e ∈ s.psc.pollList, e.fleet = .visiting then 2 else 1)
            * s.ale.airtimeAt s.psc.cycle.k 11 (s.ale.rateTable.length - 1)
        | .entry u e => s.ale.airtimeAt s.psc.cycle.k (6 + (e.content.body e.serial).length) u.cls
      (cost ≤ s.psc.budgetLeft →
        s.pickTraffic = ({ s with psc.budgetLeft := s.psc.budgetLeft - cost } : State).giveFrame c
          ∧ s.pickTraffic.psc.budgetLeft = s.psc.budgetLeft - cost
          ∧ s.pickTraffic.ale.txState = .keyup ∧ s.pickTraffic.ale.pttTime = s.now
          ∧ (∀ u e, c = .entry u e → s.pickTraffic.ale.txFrame = some ⟨.entry u.addr, u.addr, e.content.frameKind,
            e.content.body e.serial, u.cls, if u.fleet = .home then .a else .b⟩))
      ∧ (s.psc.budgetLeft < cost → s.pickTraffic = s.enterPoll))
    ∧ (∀ s : State, s.psc.broadcast = [] → (∀ u ∈ s.units, ∀ e ∈ u.outbox, s.eligible u e = false) →
      s.pickTraffic = s.enterPoll)
    ∧ (∀ (e : PollEntry) (rest : List PollEntry) (s : State),
      let on : State := { s with psc.pollNext := s.psc.pollNext + 1 }
      (e.void = true ∨ (∀ u, s.unit? e.unit = some u → u.contact = .signedOff) →
        s.pollEntries (e :: rest) = on.pollEntries rest)
      ∧ ∀ u, e.void = false → s.unit? e.unit = some u → u.contact ≠ .signedOff →
        let need := s.cycleWindow u.cls + s.cycleOpen + (rest.map PollEntry.allowance).sum
          + (if s.psc.probeCandidate = none then 0 else s.psc.probeAllowance)
        (s.now + need ≤ s.psc.cycleBound → s.pollEntries (e :: rest) = on.beginWindow u false)
        ∧ (s.psc.cycleBound < s.now + need → s.pollEntries (e :: rest)
          = ({ on with psc.passedOver := min 65535 (s.psc.passedOver + 1) } : State).pollEntries rest))
    ∧ ∀ s : State, s.pollEntries [] = s.enterProbe
      ∧ (s.psc.probeCandidate = none →
        s.enterProbe = ({ s with psc.cycleState := .probe, psc.window := none } : State).enterOpen)
      ∧ ∀ a, s.psc.probeCandidate = some a →
        let at_ : State := { s with psc.cycleState := .probe, psc.window := none, psc.probePointer := a }
        ((∀ u, s.unit? a = some u → u.contact ≠ .lost) → s.enterProbe = at_.enterOpen)
        ∧ ∀ u, s.unit? a = some u → u.contact = .lost →
          (s.now + (s.cycleWindow u.cls + s.cycleOpen) ≤ s.psc.cycleBound → s.enterProbe = at_.beginWindow u true)
          ∧ (s.psc.cycleBound < s.now + (s.cycleWindow u.cls + s.cycleOpen) → s.enterProbe
            = ({ at_ with psc.passedOver := min 65535 (s.psc.passedOver + 1) } : State).enterOpen)

/-! ## The radio -/

/-- KEYUP_DELAY_EXPIRY starts the bits K ms after PTT; FRAME_SEND_COMPLETION, once the last bit has ended, releases PTT
and tells the scheduler, which marks the entry, sends an all-call's second copy, or removes its entry, and then picks
again. A row that comes early or in another state changes nothing (the model's choices, logs 1 and 5). PTT is asserted
outside IDLE, and TXD carries the bits of the frame in SENDING, each for its bit time and read at whole milliseconds
(log 30). -/
def Obligations.TransmitterRows : Prop :=
  ∀ s : State,
    let began := s.ale.pttTime + s.psc.cycle.k
    (s.ale.txState = .keyup → began ≤ s.now →
        exec .keyupDelayExpiry s = .next { s with ale.txState := .sending })
      ∧ (s.ale.txState ≠ .keyup ∨ s.now < began → exec .keyupDelayExpiry s = .next s)
      ∧ (s.ale.txState ≠ .sending → exec .frameSendCompletion s = .next s)
      ∧ (s.ptt = true ↔ s.ale.txState ≠ .idle)
      ∧ (s.ale.txState ≠ .sending → s.txd = false)
      ∧ ∀ f : TxFrame, s.ale.txState = .sending → s.ale.txFrame = some f →
        (∀ e, s.ale.rateTable[f.cls]? = some e →
          s.sendEnd f = began + (40 + 8 * (6 + f.body.length)) * 1000 / e.rate)
        ∧ (s.now < s.sendEnd f → exec .frameSendCompletion s = .next s)
        ∧ f.bytes = u8 f.dest ++ u8 0 ++ u8 f.kind ++ u8 f.body.length ++ f.body
          ++ crcBytes (u8 f.dest ++ u8 0 ++ u8 f.kind ++ u8 f.body.length ++ f.body)
        ∧ (∀ (e : RateEntry) (word : Half), s.ale.rateTable[f.cls]? = some e →
          (f.sync = .a → s.ale.syncA = some word) → (f.sync = .b → s.ale.syncB = some word) →
          (∀ (i : Nat) (level : Bool), (airBits word f.bytes)[i]? = some level →
            i * 1000 ≤ (s.now - began) * e.rate → (s.now - began) * e.rate < (i + 1) * 1000 → s.txd = level)
          ∧ ((40 + 8 * (6 + f.body.length)) * 1000 ≤ (s.now - began) * e.rate → s.txd = false))
        ∧ (s.sendEnd f ≤ s.now →
          let released : State := { s with
            ale.txState := .idle, ale.txFrame := none, ale.rxState := .hunt, ale.carrierWait := true }
          (f.purpose = .poll → exec .frameSendCompletion s = .next { s with
            ale.txState := .idle, ale.txFrame := none, ale.rxState := .hunt, ale.carrierWait := true })
          ∧ (∀ a, f.purpose = .entry a → exec .frameSendCompletion s = .next (({ released with
            units := s.units.map (fun u =>
              if u.addr = a then
                { u with outbox := u.outbox.map (fun e =>
                  if e.onAir = true then { e with awaiting := true, onAir := false } else e) }
              else u) } : State).pickTraffic))
          ∧ (∀ n, f.purpose = .allCall n → (∀ e ∈ s.psc.broadcast, e.onAir = false) →
            exec .frameSendCompletion s = .next released.pickTraffic)
          ∧ (∀ e, f.purpose = .allCall false → s.psc.broadcast.filter (·.onAir) = [e] →
            exec .frameSendCompletion s = .next (({ released with
              psc.broadcast := s.psc.broadcast.filter (fun x => !x.onAir)
              als.alarms := s.als.alarms.map (fun r =>
                if r.id = e.alarm then { r with allCall := .notWanted, sent := min 65535 (r.sent + 1) } else r)
              } : State).admitCalls.pickTraffic))
          ∧ (∀ a, f.purpose = .entry a → s.outboxesOk →
            ∃ t, exec .frameSendCompletion s = .next t ∧ t.ale.txState ≠ .sending ∧ t.ale.rxState = .hunt
              ∧ t.ale.carrierWait = true
              ∧ ∀ u ∈ s.units, u.addr = a → ∀ e ∈ u.outbox, e.onAir = true →
                ∃ u' ∈ t.units, u'.addr = a ∧ { e with awaiting := true, onAir := false } ∈ u'.outbox)
          ∧ (f.purpose = .allCall true → (∃ e ∈ s.psc.broadcast, e.onAir = true) →
            exec .frameSendCompletion s = .next { s with
              ale.txState := .keyup, ale.txFrame := some { f with purpose := .allCall false, sync := .b }
              ale.pttTime := s.now, ale.rxState := .hunt, ale.carrierWait := true })
          ∧ ∀ e, f.purpose = .allCall false → s.psc.broadcast.filter (·.onAir) = [e] →
            (s.psc.broadcast.map CallEntry.alarm).Nodup → (s.als.alarms.map AlarmRec.id).Nodup →
            ∃ t, exec .frameSendCompletion s = .next t ∧ t.ale.txState ≠ .sending ∧ t.ale.rxState = .hunt
              ∧ (∀ x ∈ t.psc.broadcast, x.alarm ≠ e.alarm)
              ∧ ∀ r ∈ s.als.alarms, r.id = e.alarm →
                { r with allCall := .notWanted, sent := min 65535 (r.sent + 1) } ∈ t.als.alarms)

/-- The rows of the receive states HUNT, MEASURE, SYNC and BODY: each moves on, is noise, or ends the burst with its own
counter; a receiver that is disabled or keyed takes none of them. And what one sample of CD and RXD does on an empty
queue (log 3): it is counted, waited past or taken as a bit, or it completes one of those rows: the end of a run, 16 bits
that are a sync word, the 48th bit without one, the body length, or the last byte of the frame. -/
def Obligations.ReceiverRows : Prop :=
  (∀ (run : Nat) (window : Half) (len : Byte) (s : State),
    let on := s.ale.rxEnabled = true ∧ s.ale.txState = .idle
    let up := fun n => min 65535 (n + 1)
    (on → s.ale.rxState = .hunt →
        (s.ale.carrierWait = false → exec .burstStart s = .next { s with ale.rxState := .measure 1 })
        ∧ (s.ale.carrierWait = true → exec .burstStart s = .next s)
        ∧ exec .carrierWaitCleared s = .next { s with ale.carrierWait := false })
      ∧ (∀ n e0 rest, on → s.ale.rxState = .measure n → s.ale.rateTable = e0 :: rest →
        (run < e0.halfLen →
          exec (.noiseRun run) s = .next { s with ale.rxState := .hunt, ale.carrierWait := false })
        ∧ (e0.halfLen ≤ run →
          (∀ (i : Nat) (e : RateEntry), s.ale.rateTable[i]? = some e → run ≤ e.maxLen →
            (∀ j < i, ∀ x, s.ale.rateTable[j]? = some x → x.maxLen < run) →
            exec (.runClassified run) s = .next { s with
              ale.rxState := .sync i, ale.rxBits := [true], ale.rxWait := e.halfLen })
          ∧ ((∀ x ∈ s.ale.rateTable, x.maxLen < run) →
            exec (.beyondTable run) s = .next { s with
              ale.rxState := .hunt, ale.carrierWait := true
              ale.counters.beyondTable := up s.ale.counters.beyondTable })
          ∧ exec (.truncated run) s = .next { s with
            ale.rxState := .hunt, ale.carrierWait := false, ale.counters.truncated := up s.ale.counters.truncated }))
      ∧ (∀ c, on → s.ale.rxState = .sync c →
        (∀ e, s.ale.rateTable[c]? = some e → s.ale.halfLen c = e.halfLen)
        ∧ (s.ale.syncA = some window → exec (.syncMatched window) s = .next { s with
          ale.rxState := .body c .home, ale.rxBits := [], ale.rxWait := 2 * s.ale.halfLen c })
        ∧ (s.ale.syncA ≠ some window → s.ale.syncB = some window → exec (.syncMatched window) s = .next { s with
          ale.rxState := .body c .visiting, ale.rxBits := [], ale.rxWait := 2 * s.ale.halfLen c })
        ∧ (s.ale.syncA ≠ some window → s.ale.syncB ≠ some window →
          exec (.noSync window) s = .next { s with
            ale.rxState := .hunt, ale.carrierWait := true, ale.counters.noSync := up s.ale.counters.noSync })
        ∧ exec (.truncated run) s = .next { s with
          ale.rxState := .hunt, ale.carrierWait := false, ale.counters.truncated := up s.ale.counters.truncated })
      ∧ (∀ c f, on → s.ale.rxState = .body c f →
        (56 < len.toNat → exec (.burstBadLength len) s = .next { s with
          ale.rxState := .hunt, ale.carrierWait := true, ale.counters.badLength := up s.ale.counters.badLength })
        ∧ exec (.truncated run) s = .next { s with
          ale.rxState := .hunt, ale.carrierWait := false, ale.counters.truncated := up s.ale.counters.truncated })
      ∧ (s.ale.rxEnabled = false ∨ s.ale.txState ≠ .idle → ∀ bytes : List Byte,
        exec .burstStart s = .next s ∧ exec .carrierWaitCleared s = .next s ∧ exec (.noiseRun run) s = .next s
          ∧ exec (.runClassified run) s = .next s ∧ exec (.beyondTable run) s = .next s
          ∧ exec (.truncated run) s = .next s ∧ exec (.syncMatched window) s = .next s
          ∧ exec (.noSync window) s = .next s ∧ exec (.burstBadLength len) s = .next s
          ∧ exec (.frameComplete bytes) s = .next s))
    ∧ ∀ (x : Sample) (rest : List Sample) (s : State), s.pending = [] → s.air = x :: rest →
      s.ale.rxEnabled = true → s.ale.txState = .idle →
      let took : State := { s with air := rest, ale.lastSample := x }
      (s.ale.rxState = .hunt →
        (s.ale.carrierWait = true →
          step s = .next (if x.cd then took else { took with ale.carrierWait := false }))
        ∧ (s.ale.carrierWait = false → step s = .next
          (if x.cd = true ∧ x.mark = true ∧ ¬ (s.ale.lastSample.cd = true ∧ s.ale.lastSample.mark = true)
          then { took with ale.rxState := .measure 1 } else took)))
      ∧ (∀ n, s.ale.rxState = .measure n →
        (x.cd = true → x.mark = true → step s = .next { took with ale.rxState := .measure (min 4095 (n + 1)) })
        ∧ ∀ e0 more, s.ale.rateTable = e0 :: more → x.cd = false ∨ x.mark = false →
          (n < e0.halfLen → step s = exec (.noiseRun n) took)
          ∧ (e0.halfLen ≤ n → x.cd = false → step s = exec (.truncated n) took)
          ∧ (e0.halfLen ≤ n → x.cd = true → (∀ e ∈ s.ale.rateTable, e.maxLen < n) →
            step s = exec (.beyondTable n) took)
          ∧ (e0.halfLen ≤ n → x.cd = true → (∃ e ∈ s.ale.rateTable, n ≤ e.maxLen) →
            step s = exec (.runClassified n) took))
      ∧ (∀ c, s.ale.rxState = .sync c ∨ (∃ f, s.ale.rxState = .body c f) →
        (x.cd = false → step s = exec (.truncated 0) took)
        ∧ (x.cd = true → 1 < s.ale.rxWait → step s = .next { took with ale.rxWait := s.ale.rxWait - 1 })
        ∧ (x.cd = true → s.ale.rxWait ≤ 1 →
          let bits := s.ale.rxBits ++ [x.mark]
          let taken : State := { took with ale.rxBits := bits, ale.rxWait := 2 * s.ale.halfLen c }
          (s.ale.rxState = .sync c →
            (bits.length < 16 → step s = .next taken)
            ∧ ∀ word : Half, 16 ≤ bits.length → (∀ i < 16, bits[bits.length - 1 - i]? = some (word.getLsbD i)) →
              let match_ := s.ale.syncA = some word ∨ s.ale.syncB = some word
              (match_ → step s = exec (.syncMatched word) taken)
              ∧ (¬ match_ → bits.length < 48 → step s = .next taken)
              ∧ (¬ match_ → 48 ≤ bits.length → step s = exec (.noSync word) taken))
          ∧ ∀ (f : Fleet) (bytes : List Byte) (part : List Bool), s.ale.rxState = .body c f →
            bits = bytes.flatMap byteBits ++ part → part.length < 8 →
            (bytes.length < 4 → step s = .next taken)
            ∧ ∀ len, bytes[3]? = some len →
              (56 < len.toNat → step s = exec (.burstBadLength len) taken)
              ∧ (len.toNat ≤ 56 → bytes.length = len.toNat + 6 → step s = exec (.frameComplete bytes) taken)
              ∧ (len.toNat ≤ 56 → bytes.length ≠ len.toNat + 6 → step s = .next taken)))

/-- A complete frame that fails a check of R18 adds to that check's counter alone; one with another destination adds to
none. The receiver is in HUNT with carrier wait set. One byte for the rate class and for the fleet in the details of
UNKNOWN_UNIT and WRONG_FLEET is the model's reading (log 8). -/
def Obligations.FrameChecks : Prop :=
  ∀ (bytes : List Byte) (p : AirParts) (c : Nat) (fleet : Fleet) (s : State),
    s.ale.rxEnabled = true → s.ale.txState = .idle → s.ale.rxState = .body c fleet → airParts bytes = some p →
    s.doublePollOk →
    let up := fun n => min 65535 (n + 1)
    let h : State := { s with ale.rxState := .hunt, ale.carrierWait := true }
    (p.checked = false → exec (.frameComplete bytes) s
          = .next { h with ale.counters.badCheck := up s.ale.counters.badCheck })
      ∧ (p.checked = true → p.dest ≠ 0 → exec (.frameComplete bytes) s = .next h)
      ∧ (p.checked = true → p.dest = 0 →
        (p.kind ≠ 0x41 → p.kind ≠ 0x42 → exec (.frameComplete bytes) s
            = .next { h with ale.counters.badKind := up s.ale.counters.badKind })
        ∧ (p.fit = .badKind → exec (.frameComplete bytes) s
          = .next { h with ale.counters.badKind := up s.ale.counters.badKind })
        ∧ (p.fit = .badLength → exec (.frameComplete bytes) s
          = .next { h with ale.counters.badLength := up s.ale.counters.badLength })
        ∧ ∀ f, p.fit = .fits f →
          (s.unit? p.source.toNat = none → exec (.frameComplete bytes) s
              = .next (({ h with ale.counters.unknownUnit := up s.ale.counters.unknownUnit } : State).raise
                .unknownUnit (.unit p.source.toNat) (u8 fleet.code ++ u8 c)))
          ∧ ∀ u, s.unit? p.source.toNat = some u → u.fleet ≠ fleet → exec (.frameComplete bytes) s
            = .next (({ h with ale.counters.wrongFleet := up s.ale.counters.wrongFleet } : State).raise
              .wrongFleet (.unit p.source.toNat) (u8 fleet.code)))

/-- A valid frame from a signed-on unit makes it IN_CONTACT with a full budget at the class of the burst, and a REPLY ends
its window; a frame from a SIGNED_OFF unit sets its last heard time and nothing else. The first frame heard raises
UNIT_HEARD, one of a LOST unit UNIT_REGAINED, and one of another class UNIT_RATE_CHANGE. An ALERT of a LOST unit voids its
entries of the poll list, heard before or not (the model's reading, log 35); a REPLY of one, in its window or late, voids
none (the model's choice, log 36). The contents are handed on in the order of R20, and the matching REPLY acknowledges
entries or costs each one retry. The model's own in this: the last status key 0 of a unit that its own key signs off (log
29), the class of the burst and the rates in the events' details (logs 8, 10), an event before the recomputation it causes
(log 11), and the entries resolved in the order of the outbox (log 13). What their owners then do stands with the owners:
orders in RecallAndRelinkOrder, steps in ConfirmAndAbortStep, permits in SuspendAndResumePermit and CloseAPermit, prompts
in WorkerFallsDue. -/
def Obligations.ValidFrames : Prop :=
  (∀ (bytes : List Byte) (p : AirParts) (c : Nat) (fleet : Fleet) (f : UnitFrame) (u : UnitRec) (s : State),
    s.ale.rxEnabled = true → s.ale.txState = .idle → s.ale.rxState = .body c fleet → airParts bytes = some p →
    p.checked = true → p.dest = 0 → p.fit = .fits f → s.unit? p.source.toNat = some u → u.fleet = fleet →
    (u.contact = .signedOff → s.doublePollOk → exec (.frameComplete bytes) s = .next { s with
        ale.rxState := .hunt, ale.carrierWait := true
        units := s.units.map (fun x => if x.addr = u.addr then { x with lastHeard := some s.now } else x) })
      ∧ (u.contact ≠ .signedOff → (s.units.map UnitRec.addr).Nodup →
        ∃ t u', exec (.frameComplete bytes) s = .next t ∧ t.unit? u.addr = some u' ∧ u'.identity = u.identity
          ∧ t.ale.rxState = .hunt ∧ t.ale.carrierWait = true ∧ t.ale.counters = s.ale.counters
          ∧ (t.units.filter (fun x => x.addr != u.addr)).map UnitRec.standing
            = (s.units.filter (fun x => x.addr != u.addr)).map UnitRec.standing
          ∧ (∀ slot cause, f = .alert slot cause →
            u'.standing = (c, .inContact, s.psc.timing.n, true, u.lastKey, u.paused, some s.now))
          ∧ ∀ key reports items, f = .reply key reports items →
            u'.cls = c ∧ u'.heard = true ∧ u'.lastHeard = some s.now
              ∧ u'.lastKey = (if u'.contact = .signedOff then 0 else key)
              ∧ (u'.contact = .inContact ∧ u'.budget = s.psc.timing.n ∨ u'.contact = .signedOff ∧ u'.budget = 0)
              ∧ (key = 0 → u'.contact = .inContact ∧ u'.paused = u.paused)
              ∧ ∀ w, s.psc.window = some w → w.unit = u.addr → w.repliedAt = none →
                ∃ w', t.psc.window = some w' ∧ w'.repliedAt = some s.now ∧ w'.began = w.began)
      ∧ (u.contact ≠ .signedOff →
        let hunted : State := { s with ale.rxState := .hunt, ale.carrierWait := true }
        let heard := hunted.heardFrame u.addr c s.now
        (∀ slot cause, f = .alert slot cause →
          let noted : State := if u.contact = .lost then { heard with
            psc.pollList := heard.psc.pollList.map (fun e => if e.unit = u.addr then { e with void := true } else e) }
          else heard
          exec (.frameComplete bytes) s = .next (noted.report u.addr slot cause true s.now).settle)
        ∧ ∀ key reports items, f = .reply key reports items →
          let keyed := (heard.takeReply u.addr items s.now).statusKey u.addr key s.now
          let told := reports.foldl (fun t r => t.report u.addr r.slot r.condition false s.now) keyed
          ((keyed.unit? u.addr).map UnitRec.contact ≠ some .signedOff → (keyed.unit? u.addr).isSome = true →
            exec (.frameComplete bytes) s = .next (items.foldl (State.takeItem u.addr s.now) told).settle)
          ∧ ((keyed.unit? u.addr).map UnitRec.contact = some .signedOff →
            exec (.frameComplete bytes) s = .next keyed.settle)))
    ∧ (∀ (a : Nat) (at_ : Millis) (s : State),
      (∀ h x, s.takeItem a at_ (.segmentAck h x) = s) ∧ (∀ n, s.takeItem a at_ (.frameAck n) = s)
      ∧ (∀ h c, s.takeItem a at_ (.orderState h c) = s.crewReport a h c)
      ∧ (∀ x d op, s.takeItem a at_ (.readback x d op) = s.readback a x d op)
      ∧ (∀ x pos, s.takeItem a at_ (.stepDone x pos) = s.stepDone a x pos at_)
      ∧ (∀ n k serial, s.takeItem a at_ (.permitAccept n k serial) = s.permitAccept a n k serial)
      ∧ ∀ n, s.takeItem a at_ (.permitSurrender n) = s.permitSurrender a n)
    ∧ (∀ (a c : Nat) (at_ : Millis) (u : UnitRec) (s : State), s.unit? a = some u →
      let each := fun (f : UnitRec → UnitRec) (v : State) =>
        ({ v with units := v.units.map (fun x => if x.addr = a then f x else x) } : State)
      (u.contact = .signedOff → s.heardFrame a c at_ = each (fun x => { x with lastHeard := some at_ }) s)
      ∧ (u.contact ≠ .signedOff →
        let heard := each (fun x => { x with
          contact := .inContact, budget := s.psc.timing.n, lastHeard := some at_, heard := true }) s
        let told :=
          if u.heard = false then heard.raise .unitHeard (.unit a) (u8 c)
          else if u.contact = .lost then heard.raise .unitRegained (.unit a) (u8 c ++ optTime u.lastHeard)
          else heard
        let known := if u.contact = .lost then told.recomputeEstimate else told
        (u.cls = c → s.heardFrame a c at_ = known)
        ∧ ∀ old new, u.cls ≠ c → s.ale.rateTable[u.cls]? = some old → s.ale.rateTable[c]? = some new →
          s.heardFrame a c at_ = ((each (fun x => { x with cls := c }) known).raise .unitRateChange (.unit a)
            (u8 u.cls ++ u16 old.rate ++ u8 c ++ u16 new.rate)).recomputeEstimate))
    ∧ (∀ (a : Nat) (items : List Item) (at_ : Millis) (s : State),
      let ended : State := { s with psc.window := s.psc.window.map (fun w =>
        if w.unit = a ∧ w.repliedAt = none then { w with repliedAt := some at_ } else w) }
      (a ∈ s.psc.polled → a ∉ s.psc.matched → s.takeReply a items at_ =
        (s.awaitingSerials a).foldl (State.resolveEntry a items) { ended with psc.matched := s.psc.matched ++ [a] })
      ∧ (a ∉ s.psc.polled ∨ a ∈ s.psc.matched → s.takeReply a items at_ = ended))
    ∧ ∀ (a : Nat) (items : List Item) (u : UnitRec) (e : Entry) (s : State), s.unit? a = some u →
      (u.outbox.map Entry.serial).Nodup → e ∈ u.outbox → e.awaiting = true →
      e.serial ∈ s.awaitingSerials a
        ∧ (let acknowledged := ∃ i ∈ items,
            match e.content with
            | .segment h x _ _ => i = .segmentAck h x
            | .step x _ _ => ∃ d op, i = .readback x d op
            | _ => i = .frameAck e.serial
          let freed := (({ s with units := s.units.map (fun v =>
            if v.addr = a then { v with outbox := v.outbox.filter (fun x => x.serial != e.serial) } else v)
            } : State).admitWaiting a)
          let ready := fun (retries : Nat) (t : State) => ({ t with units := t.units.map (fun v =>
            if v.addr = a then
              { v with outbox := v.outbox.map (fun x =>
                if x.serial = e.serial then { x with retries := retries, awaiting := false } else x) }
            else v) } : State)
          (acknowledged → s.resolveEntry a items e.serial = freed.tellAcknowledged a e)
          ∧ (¬ acknowledged → 1 < e.retries → s.resolveEntry a items e.serial = ready (e.retries - 1) s)
          ∧ (¬ acknowledged → e.retries ≤ 1 → e.cls < 3 →
            s.resolveEntry a items e.serial = freed.tellUndelivered a e)
          ∧ (¬ acknowledged → e.retries ≤ 1 → 3 ≤ e.cls →
            s.resolveEntry a items e.serial = ready s.psc.timing.r (s.tellUnacknowledged a e)))

/-- The end of a poll or probe window: a silent one costs its unit one miss and makes it LATE or LOST, and the cycle goes
on; before its time nothing changes (log 5). -/
def Obligations.PollWindowEnd : Prop :=
  ∀ (w : Window) (s : State), s.psc.window = some w → s.ale.txState = .idle → (s.units.map UnitRec.addr).Nodup →
    let due := match w.repliedAt with
      | none => w.began + w.length
      | some r => min (w.began + w.length) (r + s.psc.cycle.t)
    let silent := w.repliedAt = none ∧ w.void = false
    let missed := fun u : UnitRec =>
      match u.contact with
      | .inContact | .late =>
        if u.budget ≤ 1 then { u with contact := .lost, budget := 0 }
        else { u with contact := .late, budget := u.budget - 1 }
      | .neverHeard =>
        if u.budget ≤ 1 then { u with contact := .lost, budget := 0 } else { u with budget := u.budget - 1 }
      | .lost | .signedOff => u
    (s.now < due → exec .pollWindowEnd s = .next s)
      ∧ (due ≤ s.now → ∃ t, exec .pollWindowEnd s = .next t
        ∧ t.units.map UnitRec.standing = s.units.map (fun u =>
          if u.addr = w.unit ∧ silent then (missed u).standing else u.standing)
        ∧ (silent → ∀ u, s.unit? w.unit = some u →
          (u.contact = .inContact → 2 ≤ u.budget → s.reported 0 .unitLate (.unit u.addr) (u8 (u.budget - 1)) t)
          ∧ (u.contact ≠ .lost → u.contact ≠ .signedOff → u.budget ≤ 1 →
            s.reported 0 .unitLost (.unit u.addr) (optTime u.lastHeard) t))
        ∧ (∀ w', t.psc.window = some w' → w'.began = s.now)
        ∧ (w.probe = true → t.psc.cycleState = .openWindow ∧ t.psc.openEnd = s.now + s.cycleOpen))

/-- DEMAND_ADMISSION fills a unit's outbox, or the broadcast outbox, with the demands that wait for it: until it is full
or no demand waits. The demands are taken in their order (class, time of demand, owner, reference), and each leaves the
demands that wait; each entry has the next serial in turn, which no entry of the outbox holds, the retry budget and the
present time. A unit that is SIGNED_OFF or not defined admits nothing. That a closing notice item goes before a demand of a
permit of the same number, class and time is the model's choice (log 14). -/
def Obligations.DemandAdmission : Prop :=
  (∀ (a : Nat) (u : UnitRec) (s : State), a ≠ 0 → s.outboxesOk → s.unit? a = some u →
      ∃ t u' more taken, exec (.demandAdmission a) s = .next t ∧ t.unit? a = some u'
        ∧ u'.outbox = u.outbox ++ more
        ∧ more.map (fun e => (e.source, e.content, e.cls, e.emergency))
          = taken.map (fun d : Demand => (d.source, d.content, d.cls, d.emergency))
        ∧ (∀ e ∈ more, e.retries = s.psc.timing.r ∧ e.time = s.now ∧ e.awaiting = false ∧ e.onAir = false)
        ∧ (taken ++ t.waitingFor u').Perm (s.waitingFor u) ∧ (t.waitingFor u').Sublist (s.waitingFor u)
        ∧ taken.Pairwise (fun d e => e.before d = false) ∧ (∀ d ∈ taken, ∀ e ∈ t.waitingFor u', e.before d = false)
        ∧ (more.map Entry.serial ++ [u'.nextSerial])[0]? = some u.nextSerial
        ∧ (∀ n x y, (more.map Entry.serial ++ [u'.nextSerial])[n]? = some x →
          (more.map Entry.serial ++ [u'.nextSerial])[n + 1]? = some y →
          let held := u.outbox.map Entry.serial ++ (more.take (n + 1)).map Entry.serial
          y ∉ held ∧ ∃ j, y = (x + j + 1) % 256 ∧ ∀ k < j, (x + k + 1) % 256 ∈ held)
        ∧ (u'.outbox.map Entry.serial).Nodup ∧ u'.nextSerial ∉ u'.outbox.map Entry.serial
        ∧ (u.contact ≠ .signedOff → u'.outbox.length = 4 ∨ t.waitingFor u' = [])
        ∧ (u.contact = .signedOff → t = s)
        ∧ (∀ x ∈ s.units, x.addr ≠ a → x ∈ t.units))
    ∧ (∀ (a : Nat) (s : State), a ≠ 0 → s.unit? a = none → exec (.demandAdmission a) s = .next s)
    ∧ ∀ s : State, (s.als.alarms.map AlarmRec.id).Nodup → s.psc.broadcast.length ≤ 2 →
      ∃ t more, exec (.demandAdmission 0) s = .next t ∧ t.psc.broadcast = s.psc.broadcast ++ more
        ∧ (∀ e ∈ more, e.onAir = false ∧ e.time = s.now ∧ ∃ r ∈ s.als.alarms, r.id = e.alarm
          ∧ { r with allCall := .queued } ∈ t.als.alarms
          ∧ ∃ m, r.allCall = .waiting m
            ∧ ∀ q ∈ t.als.alarms, ∀ k, q.allCall = .waiting k → m < k ∨ (m = k ∧ r.id < q.id))
        ∧ (∀ e f, more = [e, f] → ∀ r ∈ s.als.alarms, ∀ q ∈ s.als.alarms, ∀ m k, r.id = e.alarm → q.id = f.alarm →
          r.allCall = .waiting m → q.allCall = .waiting k → m < k ∨ (m = k ∧ r.id < q.id))
        ∧ (∀ r ∈ s.als.alarms, r.id ∉ more.map CallEntry.alarm → r ∈ t.als.alarms)
        ∧ (t.psc.broadcast.length = 2 ∨ ∀ r ∈ t.als.alarms, ∀ m, r.allCall ≠ .waiting m)

/-! ## Workers and alarms in time -/

/-- At its deadline a worker in OK enters DUE: the prompt window opens and a CHECKIN_REQUEST stands with its unit. Before
the deadline nothing changes, and the deadline may be taken late (log 5). And what worker reports and check-ins do: a
check-in moves the last check-in and, in DUE or PREALERT, returns the worker to OK; a fresh MAN_DOWN opens the cancel
window; a fresh PANIC is handed to the Alarm List; an unacknowledged PROMPT raises PROMPT_UNACKNOWLEDGED. The order of a crew
check-in, by slot, and the mark 255 of its condition are the model's (logs 32, 10). -/
def Obligations.WorkerFallsDue : Prop :=
  (∀ (id d : Nat) (w : WorkerRec) (s : State), s.worker? id = some w → w.state = .ok → w.deadline = some d →
    (s.lwm.workers.map WorkerRec.id).Nodup →
    (d ≤ s.now →
        ∃ t w', exec (.workerDeadlineReached id) s = .next t ∧ t.worker? id = some w' ∧ w'.place = w.place
          ∧ w'.state = .due ∧ w'.deadline = none ∧ w'.windowEnd = some (s.now + 1000 * s.lwm.intervals.prompt)
          ∧ w'.lastCheckin = w.lastCheckin
          ∧ ((s.unit? w.unit).isSome = true → t.holds w.unit (.worker id) (.prompt w.slot .checkinRequest) 3 false)
          ∧ s.reported 0 .workerDue (.worker id)
            (u8 w.unit ++ u8 w.slot ++ optTime w.lastCheckin ++ u16 w.interval) t)
      ∧ (s.now < d → exec (.workerDeadlineReached id) s = .next s))
    ∧ (∀ (id : Nat) (own : Option Condition) (at_ : Millis) (w : WorkerRec) (s : State), s.worker? id = some w →
      (s.lwm.workers.map WorkerRec.id).Nodup →
      let last := max (w.lastCheckin.getD 0) at_
      let set := fun (f : WorkerRec → WorkerRec) => ({ s with
        lwm.workers := s.lwm.workers.map (fun x => if x.id = id then f x else x) } : State)
      let noted := set (fun x => { x with lastCheckin := some last })
      let detail := u8 w.unit ++ u8 w.slot ++ u8 ((own.map Condition.code).getD 255)
      (w.state = .ok → s.now < last + 1000 * w.interval → s.checkIn id own at_
        = set (fun x => { x with lastCheckin := some last, deadline := some (last + 1000 * w.interval) }))
      ∧ (w.state = .ok → last + 1000 * w.interval ≤ s.now → s.checkIn id own at_ = noted.fallDue id)
      ∧ (w.state = .due ∨ (w.state = .prealert ∧ own.isSome = true) → s.now < last + 1000 * w.interval →
        ∃ w', (s.checkIn id own at_).worker? id = some w' ∧ w'.place = w.place ∧ w'.state = .ok
          ∧ w'.lastCheckin = some last ∧ w'.deadline = some (last + 1000 * w.interval) ∧ w'.windowEnd = none
          ∧ (s.checkIn id own at_).holdsNone w.unit (.worker id)
          ∧ s.reported 0 (if w.state = .due then .dueCleared else .prealertCancelled) (.worker id) detail
            (s.checkIn id own at_))
      ∧ (w.state = .prealert → own = none → s.checkIn id own at_ = noted)
      ∧ (w.state = .alarm → own = none ∨ w.alarmReported = true → s.checkIn id own at_ = noted)
      ∧ (w.state = .alarm → own.isSome = true → w.alarmReported = false → s.checkIn id own at_
        = (set (fun x => { x with lastCheckin := some last, alarmReported := true })).raise
          .checkinInAlarm (.worker id) []))
    ∧ (∀ (a : Nat) (at_ : Millis) (s : State),
      s.crewCheckIn a at_ = ((s.workersOf a).map WorkerRec.id).foldl (fun t i => t.checkIn i none at_) s)
    ∧ (∀ (a id : Nat) (e : Entry) (s : State), e.source = .worker id →
      s.tellAcknowledged a e = s
        ∧ ∀ slot prompt w, e.content = .prompt slot prompt → s.worker? id = some w → s.tellUnacknowledged a e
          = s.raise .promptUnacknowledged (.worker id) (u8 w.unit ++ u8 w.slot ++ u8 prompt.code))
    ∧ ∀ (a slot : Nat) (c : Condition) (alert : Bool) (at_ : Millis) (s : State),
      let t := s.report a slot c alert at_
      ((∀ w ∈ s.lwm.workers, ¬ (w.unit = a ∧ w.slot = slot)) →
        (c = .manDown → t = s.raise .unassignedAlert (.unit a) (u8 slot ++ u8 2))
        ∧ (c = .panic → t = s.raise .unassignedAlert (.unit a) (u8 slot ++ u8 3))
        ∧ (c ≠ .manDown → c ≠ .panic → t = s))
      ∧ ∀ w ∈ s.lwm.workers, w.unit = a → w.slot = slot → (s.lwm.workers.map WorkerRec.id).Nodup →
        (∀ x ∈ s.lwm.workers, x.unit = a → x.slot = slot → x = w) →
        let fresh := alert = true ∨ w.lastCondition ≠ some c
        let marked := fun (v : State) => ({ v with
          lwm.workers := v.lwm.workers.map (fun x => if x.id = w.id then { x with lastCondition := some c } else x)
          } : State)
        (w.state = .inactive → t = s)
        ∧ (w.state ≠ .inactive →
          (c = .ok ∨ c = .cancel → t = marked (s.checkIn w.id (some c) at_))
          ∧ (c ≠ .ok → c ≠ .cancel → ¬ fresh → t = marked s)
          ∧ (c = .noTag → fresh → t = marked (s.raise .tagNotHeard (.worker w.id) (u8 a ++ u8 slot)))
          ∧ (c = .panic → fresh → t = marked (s.handCause w.id .panic))
          ∧ (c = .manDown → fresh → w.state = .alarm → t = marked (s.handCause w.id .manDown))
          ∧ (c = .manDown → fresh → w.state = .prealert → t = marked s)
          ∧ (c = .manDown → fresh → w.state = .ok ∨ w.state = .due →
            let e := at_ + 1000 * s.lwm.intervals.cancel
            ∃ w', t.worker? w.id = some w' ∧ w'.place = w.place ∧ w'.state = .prealert ∧ w'.deadline = none
              ∧ w'.windowEnd = some e ∧ w'.lastCheckin = w.lastCheckin ∧ w'.lastCondition = some .manDown
              ∧ ((s.unit? a).isSome = true → t.holds a (.worker w.id) (.prompt slot .cancelQuery) 3 false)
              ∧ s.reported 0 .workerPrealert (.worker w.id) (u8 a ++ u8 slot ++ u48 e) t))

/-- The end of a prompt window, and of a cancel window, opens an alarm with the next alarm id and makes the worker ALARM,
its prompt gone; a window end may be taken late (the model's choice, log 5). A cause handed by a report opens an alarm in
the same way, or is merged into the worker's open alarm, which it raises again once it is RESPONDING. -/
def Obligations.WindowsOpenAlarms : Prop :=
  let opened := fun (id : Nat) (w : WorkerRec) (cause : Cause) (s t : State) =>
    ∃ w' r, t.worker? id = some w' ∧ w'.place = w.place ∧ w'.state = .alarm
      ∧ w'.deadline = none ∧ w'.windowEnd = none ∧ w'.alarmReported = false ∧ w'.lastCheckin = w.lastCheckin
      ∧ t.als.alarms = s.als.alarms ++ [r]
      ∧ r.case = ((s.als.nextId, id, w.unit, w.slot),
        ⟨cause == .missedCheckin, cause == .manDown, cause == .panic⟩, .raised, 1, s.now, s.now,
        some (s.now + 1000 * s.als.ackWindow), 0)
      ∧ r.allCall = .notWanted ∧ r.sent = 0
      ∧ within 1 65535 t.als.nextId ∧ t.als.nextId ∉ t.als.alarms.map AlarmRec.id
      ∧ t.holdsNone w.unit (.worker id)
      ∧ s.reported 0 .alarmRaised (.alarm s.als.nextId)
        (u16 id ++ u8 w.unit ++ u8 w.slot ++ u8 cause.code ++ u8 1) t
  (∀ (i : Instr) (id e : Nat) (w : WorkerRec) (cause : Cause) (s : State), s.alarmsOk → s.worker? id = some w →
    w.windowEnd = some e → e ≤ s.now →
    (i = .promptWindowEnd id ∧ w.state = .due ∧ cause = .missedCheckin)
      ∨ (i = .cancelWindowEnd id ∧ w.state = .prealert ∧ cause = .manDown) →
    ∃ t, exec i s = .next t ∧ opened id w cause s t)
    ∧ (∀ (id : Nat) (w : WorkerRec) (cause : Cause) (s : State), s.alarmsOk → s.worker? id = some w →
      (∀ r ∈ s.als.alarms, r.worker ≠ id) → opened id w cause s (s.handCause id cause))
    ∧ ∀ (id : Nat) (w : WorkerRec) (cause : Cause) (before after : List AlarmRec) (r : AlarmRec) (s : State),
      s.worker? id = some w → s.als.alarms = before ++ r :: after → r.worker = id → (∀ q ∈ before, q.worker ≠ id) →
      (s.als.alarms.map AlarmRec.id).Nodup →
      let had := match cause with
        | .missedCheckin => r.causes.missedCheckin
        | .manDown => r.causes.manDown
        | .panic => r.causes.panic
      let causes : CauseSet := ⟨r.causes.missedCheckin || cause == .missedCheckin,
        r.causes.manDown || cause == .manDown, r.causes.panic || cause == .panic⟩
      let r' : AlarmRec :=
        if r.stage = .responding then
          { r with causes := causes, stage := .raised, raises := min 255 (r.raises + 1), lastRaised := s.now
                   windowEnd := some (s.now + 1000 * s.als.ackWindow), passed := 0 }
        else { r with causes := causes }
      s.handCause id cause = ({ s with
        lwm.workers := s.lwm.workers.map (fun x => if x.id = id then { x with alarmReported := false } else x)
        als.alarms := before ++ r' :: after } : State).raise .alarmCauseAdded (.alarm r.id)
          (u8 cause.code ++ yesNo (!had) ++ u8 causes.code ++ u8 r'.stage.code ++ u8 r'.raises)

/-- The window end of a RAISED alarm: UNANSWERED with a new window, one more window end passed (held at 65,535),
ALARM_UNANSWERED at level
3, an all-call demanded, SITE ALARM asserted, and the double-poll set as it was. Taken late its times run from the
present time, and before its time nothing changes (the model's choices, log 5). -/
def Obligations.RaisedWindowEnd : Prop :=
  ∀ (a e : Nat) (r : AlarmRec) (s : State), (s.als.alarms.map AlarmRec.id).Nodup → s.doublePollOk →
    s.alarm? a = some r → r.stage = .raised → r.windowEnd = some e →
    (e ≤ s.now →
        exec (.ackWindowEndRaised a) s = .next { s with
          als.alarms := s.als.alarms.map (fun q =>
            if q.id = a then
              { q with
                stage := .unanswered, windowEnd := some (s.now + 1000 * s.als.ackWindow)
                passed := min 65535 (q.passed + 1)
                allCall := if s.psc.broadcast.length < 2 then .queued else .waiting s.now }
            else q)
          als.siteAlarm := true
          psc.broadcast := if s.psc.broadcast.length < 2 then s.psc.broadcast ++ [⟨a, s.now, false⟩] else s.psc.broadcast
          clp := s.clp.enqueue ⟨.alarmUnanswered, 3, s.now, .alarm a, u16 r.worker ++ u8 r.unit ++ u8 r.slot
            ++ u8 r.causes.code ++ u8 r.raises ++ u16 (min 65535 (r.passed + 1))⟩ })
      ∧ (s.now < e → exec (.ackWindowEndRaised a) s = .next s)

/-- The window end of an UNANSWERED alarm: a new window, one more passed (held at 65,535), ALARM_UNANSWERED again, and a
further all-call
when none is waiting, queued or on air. Taken late its times run from the present time, and before its time nothing
changes (the model's choices, log 5). -/
def Obligations.UnansweredWindowEnd : Prop :=
  ∀ (a e : Nat) (r : AlarmRec) (s : State), (s.als.alarms.map AlarmRec.id).Nodup → s.doublePollOk →
    s.alarm? a = some r → r.stage = .unanswered → r.windowEnd = some e →
    let entry : EventEntry := ⟨.alarmUnanswered, 3, s.now, .alarm a, u16 r.worker ++ u8 r.unit ++ u8 r.slot
      ++ u8 r.causes.code ++ u8 r.raises ++ u16 (min 65535 (r.passed + 1))⟩
    let next := fun (call : AllCall) => s.als.alarms.map (fun q =>
      if q.id = a then
        { q with
          windowEnd := some (s.now + 1000 * s.als.ackWindow), passed := min 65535 (q.passed + 1), allCall := call }
      else q)
    (e ≤ s.now → r.allCall = .notWanted →
        exec (.ackWindowEndUnanswered a) s = .next { s with
          als.alarms := next (if s.psc.broadcast.length < 2 then .queued else .waiting s.now)
          psc.broadcast := if s.psc.broadcast.length < 2 then s.psc.broadcast ++ [⟨a, s.now, false⟩] else s.psc.broadcast
          clp := s.clp.enqueue entry })
      ∧ (e ≤ s.now → r.allCall ≠ .notWanted →
        exec (.ackWindowEndUnanswered a) s = .next { s with
          als.alarms := next r.allCall, clp := s.clp.enqueue entry })
      ∧ (s.now < e → exec (.ackWindowEndUnanswered a) s = .next s)

/-! ## Frames and invariants -/

/-- What every command leaves unchanged: every part of the state outside those it writes. -/
def Obligations.FrameOfEveryCommand : Prop :=
  (∀ (i : Instr) (s t : State), exec i s = .next t → i.carries = false → s.clp.orderOk →
      ∀ p, p ∉ i.writes → s.same t p)
    ∧ (∀ (s t : State), exec .replySent s = .next t → ∀ p,
      p ∉ [.line, .linkCounters] ++ (match s.clp.order with
        | .request _ _ r :: _ => r.writes
        | _ => []) → s.same t p)
    ∧ ∀ (bytes : List Byte) (s t : State), exec (.requestFrameArrived bytes) s = .next t → s.clp.orderOk →
      ∀ p, p ∉ [.line, .linkCounters] ++ (match serialParts bytes with
        | some b => (decodeRequest b.kind b.body).writes
        | none => []) → s.same t p

/-- The double-poll set stays exactly the units with a worker in DUE or PREALERT or an alarm RAISED or UNANSWERED. -/
def Obligations.DoublePollKept : Prop := ∀ s t : State, s.doublePollOk → step s = .next t → t.doublePollOk

/-- The cycle estimate stays the one the roster, the timing and the double-poll set give, and the monitor holds it. -/
def Obligations.EstimateKept : Prop := ∀ s t : State, s.estimateOk → step s = .next t → t.estimateOk

/-- Every worker's interval, deadline and window end stay as R87, R89 and R84 give them. -/
def Obligations.DeadlinesKept : Prop := ∀ s t : State, s.deadlinesOk → step s = .next t → t.deadlinesOk

/-- A worker stays in ALARM exactly while it has an open alarm, and SITE ALARM asserted exactly while one is
UNANSWERED. -/
def Obligations.AlarmsKept : Prop := ∀ s t : State, s.alarmsOk → step s = .next t → t.alarmsOk

/-- No permit is ACTIVE while one of its devices is out of place or without its tag, and no device holds a tag of
another permit. -/
def Obligations.PermitsKept : Prop := ∀ s t : State, s.permitsOk → step s = .next t → t.permitsOk

/-- No order linked to a permit is PROCEEDING or WORKING unless that permit is ACTIVE and names the order's unit. -/
def Obligations.GateKept : Prop := ∀ s t : State, s.gateOk → step s = .next t → t.gateOk

/-- Every unit's hazard base stays the one its orders in PROCEEDING or WORKING give. -/
def Obligations.HazardsKept : Prop := ∀ s t : State, s.hazardsOk → step s = .next t → t.hazardsOk

/-- Every outbox stays within its 4 entries with distinct serials, no record has two entries or demands, and no CLOSED
copy waits as a demand. -/
def Obligations.OutboxesKept : Prop := ∀ s t : State, s.outboxesOk → step s = .next t → t.outboxesOk

/-- Every value that is clamped when it is set stays within its range. -/
def Obligations.RangesKept : Prop := ∀ s t : State, s.rangesOk → step s = .next t → t.rangesOk

/-! ## Figures -/

/-- The manual's own figures: airtimes of R6, the rate table of R11, the check value of R180, and the first bits of a
frame on air (R4). And the windows of R45 at a rate of the table. -/
def Obligations.FiguresOfTheManual : Prop :=
  ([7, 8, 11, 34, 50, 62].map (fun n => [9600, 4800, 2400, 1200].map (airtime 40 n))
      = [[50, 60, 80, 120], [51, 62, 84, 127], [54, 67, 94, 147], [73, 105, 170, 300], [86, 132, 224, 407],
        [96, 152, 264, 487]])
    ∧ [airtime 250 7 300, airtime 250 8 300, airtime 250 34 300] = [570, 597, 1290]
    ∧ [9600, 7200, 4800, 3600, 3072, 2400, 1200, 600, 300].map (fun b =>
        ((RateEntry.ofRate b).maxLen, (RateEntry.ofRate b).halfLen))
      = [(9, 4), (12, 5), (17, 8), (23, 11), (27, 13), (34, 16), (68, 32), (135, 64), (269, 128)]
    ∧ crc16 [0x31, 0x32, 0x33, 0x34, 0x35, 0x36, 0x37, 0x38, 0x39] = 0x29B1#16
    ∧ (∀ (k t c : Nat) (e : RateEntry) (a : Ale), a.rateTable[c]? = some e →
      a.window k t c = airtime k 7 e.rate + t + airtime k 34 e.rate + t
        ∧ (c + 1 = a.rateTable.length → a.openWindow k t = t + airtime k 8 e.rate + t))
    ∧ ∀ (sync : Half) (bytes : List Byte),
      (airBits sync bytes).length = 40 + 8 * bytes.length
        ∧ (∀ i < 24, (airBits sync bytes)[i]? = some (decide (i % 2 = 0)))
        ∧ ∀ i < 16, (airBits sync bytes)[24 + i]? = some (sync.getLsbD (15 - i))
end

