-- ==== Sys2Proof/Laws/Lists.lean ====
section
/-! SUPPORT. The list operations of Ops: what a change, an insertion, a removal and a choice of the best do. -/

namespace Sys2Proof.Machine

variable {α β : Type}

/-- A figure that the change keeps on every element is the same over the whole list. -/
theorem map_update_eq (g : α → β) (p : α → Bool) (f : α → α) (h : ∀ x, p x = true → g (f x) = g x) (xs : List α) :
    (update p f xs).map g = xs.map g := by
  induction xs with
  | nil => rfl
  | cons x xs ih =>
    have : update p f (x :: xs) = (if p x then f x else x) :: update p f xs := rfl
    rw [this, List.map_cons, List.map_cons, ih]
    split
    · rw [h x (by assumption)]
    · rfl

@[simp] theorem length_update (p : α → Bool) (f : α → α) (xs : List α) : (update p f xs).length = xs.length :=
  List.length_map ..

theorem mem_update {p : α → Bool} {f : α → α} {xs : List α} {y : α} :
    y ∈ update p f xs ↔ ∃ x ∈ xs, (if p x then f x else x) = y := List.mem_map

theorem update_eq_self (p : α → Bool) (f : α → α) (xs : List α) (h : ∀ x ∈ xs, p x = false) : update p f xs = xs := by
  induction xs with
  | nil => rfl
  | cons x xs ih =>
    have hx := h x (List.mem_cons_self ..)
    have : update p f (x :: xs) = (if p x then f x else x) :: update p f xs := rfl
    rw [this, ih (fun y hy => h y (List.mem_cons_of_mem _ hy))]
    simp [hx]

theorem find?_update (p : α → Bool) (f : α → α) (h : ∀ x, p x = true → p (f x) = true) (xs : List α) :
    (update p f xs).find? p = (xs.find? p).map f := by
  induction xs with
  | nil => rfl
  | cons x xs ih =>
    have e : update p f (x :: xs) = (if p x then f x else x) :: update p f xs := rfl
    rw [e, List.find?_cons, List.find?_cons]
    cases hx : p x with
    | true => simp [h x hx]
    | false => simp [hx, ih]

theorem insertBefore_perm (after : α → Bool) (x : α) (xs : List α) : (insertBefore after x xs).Perm (x :: xs) := by
  induction xs with
  | nil => exact .refl _
  | cons y ys ih =>
    unfold insertBefore
    split
    · exact .refl _
    · exact (ih.cons y).trans (List.Perm.swap ..)

theorem mem_insertBefore {after : α → Bool} {x y : α} {xs : List α} :
    y ∈ insertBefore after x xs ↔ y = x ∨ y ∈ xs := by
  rw [(insertBefore_perm after x xs).mem_iff, List.mem_cons]

theorem length_insertBefore (after : α → Bool) (x : α) (xs : List α) :
    (insertBefore after x xs).length = xs.length + 1 := (insertBefore_perm after x xs).length_eq

theorem filter_insertBefore (q : α → Bool) (after : α → Bool) (x : α) (xs : List α) (hx : q x = false) :
    (insertBefore after x xs).filter q = xs.filter q := by
  induction xs with
  | nil => simp [insertBefore, hx]
  | cons y ys ih =>
    unfold insertBefore
    split
    · simp [hx]
    · simp [List.filter_cons, ih]

/-- Inserting before the first element with a greater key keeps a list in strict order of its keys. -/
theorem pairwise_insertBefore (key : α → Nat) (x : α) (xs : List α) (hs : (xs.map key).Pairwise (· < ·))
    (hx : key x ∉ xs.map key) :
    ((insertBefore (fun y => decide (key x < key y)) x xs).map key).Pairwise (· < ·) := by
  induction xs with
  | nil => simp [insertBefore]
  | cons y ys ih =>
    simp only [List.map_cons, List.pairwise_cons, List.mem_cons, not_or] at hs hx
    unfold insertBefore
    split
    case isTrue h =>
      simp only [List.map_cons, List.pairwise_cons]
      refine ⟨fun k hk => ?_, hs⟩
      rcases List.mem_cons.1 hk with rfl | hk
      · exact of_decide_eq_true h
      · exact lt_trans (of_decide_eq_true h) (hs.1 k hk)
    case isFalse h =>
      simp only [List.map_cons, List.pairwise_cons]
      refine ⟨fun k hk => ?_, ih hs.2 hx.2⟩
      obtain ⟨z, hz, rfl⟩ := List.mem_map.1 hk
      rcases mem_insertBefore.1 hz with rfl | hz
      · simp only [decide_eq_true_eq] at h; omega
      · exact hs.1 _ (List.mem_map_of_mem hz)

theorem removeFirst_sublist (p : α → Bool) (xs : List α) : (removeFirst p xs).Sublist xs := by
  induction xs with
  | nil => exact .refl _
  | cons y ys ih =>
    unfold removeFirst
    split
    · exact List.sublist_cons_self ..
    · exact ih.cons_cons y

theorem removeFirst_eq_of_find?_none (p : α → Bool) (xs : List α) (h : xs.find? p = none) : removeFirst p xs = xs := by
  induction xs with
  | nil => rfl
  | cons y ys ih =>
    rw [List.find?_cons] at h
    unfold removeFirst
    cases hy : p y with
    | true => simp [hy] at h
    | false => simp only [hy] at h; simp [ih h]

/-- The element removed is the one found: everything before it fails the test. -/
theorem removeFirst_eq_of_find?_some (p : α → Bool) (xs : List α) (x : α) (h : xs.find? p = some x) :
    ∃ before after, xs = before ++ x :: after ∧ removeFirst p xs = before ++ after ∧ (∀ y ∈ before, p y = false)
      ∧ p x = true := by
  induction xs with
  | nil => simp at h
  | cons y ys ih =>
    rw [List.find?_cons] at h
    unfold removeFirst
    cases hy : p y with
    | true =>
      simp only [hy, Option.some.injEq] at h
      subst h
      exact ⟨[], ys, by simp, by simp, by simp, hy⟩
    | false =>
      simp only [hy] at h
      obtain ⟨before, after, e, r, hb, hx⟩ := ih h
      refine ⟨y :: before, after, by simp [e], by simp [r], ?_, hx⟩
      intro z hz
      rcases List.mem_cons.1 hz with rfl | hz
      · exact hy
      · exact hb z hz

theorem bestOf_eq_none {better : α → α → Bool} {xs : List α} : bestOf better xs = none ↔ xs = [] := by
  cases xs with
  | nil => simp [bestOf]
  | cons x xs =>
    simp only [bestOf, reduceCtorEq, iff_false]
    split
    · simp
    · split <;> simp

theorem bestOf_mem {better : α → α → Bool} {xs : List α} {x : α} (h : bestOf better xs = some x) : x ∈ xs := by
  induction xs generalizing x with
  | nil => simp [bestOf] at h
  | cons y ys ih =>
    unfold bestOf at h
    split at h
    · simp only [Option.some.injEq] at h; exact h ▸ List.mem_cons_self ..
    · rename_i z hz
      split at h
      · simp only [Option.some.injEq] at h; exact h ▸ List.mem_cons_of_mem _ (ih hz)
      · simp only [Option.some.injEq] at h; exact h ▸ List.mem_cons_self ..

/-- A record that a list of distinct keys holds is the one a search by its key finds. -/
theorem find?_of_nodup (key : α → Nat) {xs : List α} {x : α} (h : (xs.map key).Nodup) (hx : x ∈ xs) :
    xs.find? (fun y => key y == key x) = some x := by
  induction xs with
  | nil => simp at hx
  | cons y ys ih =>
    simp only [List.map_cons, List.nodup_cons] at h
    rw [List.find?_cons]
    rcases List.mem_cons.1 hx with rfl | hx
    · simp
    · have : key y ≠ key x := fun e => h.1 (e ▸ List.mem_map_of_mem hx)
      simp only [beq_eq_false_iff_ne.2 this]
      exact ih h.2 hx

end Sys2Proof.Machine
end

