-- ==== Sys2Proof/Laws/Touches.lean ====
section
/-! SUPPORT. What a change of the state leaves alone: `Touches ps s t` says that t differs from s in the parts ps at
most. One lemma for each plain update. -/

namespace Sys2Proof.Machine

/-- Where a device was recorded to stand, by what and when. -/
abbrev DeviceRec.standing (d : DeviceRec) : Position × PositionSource × Millis := (d.position, d.source, d.posTime)

/-- Outside the parts named, t is as s. -/
def Touches (ps : List Part) (s t : State) : Prop := ∀ p, p ∉ ps → s.same t p

theorem State.same_refl (s : State) (p : Part) : s.same s p := by
  cases p <;> simp [State.same]

theorem State.same_trans {s t u : State} {p : Part} (h1 : s.same t p) (h2 : t.same u p) : s.same u p := by
  cases p <;> simp only [State.same] at * <;> simp_all

theorem Touches.refl (ps : List Part) (s : State) : Touches ps s s := fun p _ => s.same_refl p

theorem Touches.trans {ps : List Part} {s t u : State} (h1 : Touches ps s t) (h2 : Touches ps t u) : Touches ps s u :=
  fun p hp => State.same_trans (h1 p hp) (h2 p hp)

theorem Touches.mono {ps qs : List Part} {s t : State} (h : Touches ps s t) (hs : ∀ p ∈ ps, p ∈ qs) : Touches qs s t :=
  fun p hp => h p (fun hm => hp (hs p hm))

theorem Touches.foldl {α : Type} {ps : List Part} {f : State → α → State} (h : ∀ s x, Touches ps s (f s x)) (xs : List α)
    (s : State) : Touches ps s (xs.foldl f s) := by
  induction xs generalizing s with
  | nil => exact Touches.refl ps s
  | cons x xs ih => exact (h s x).trans (ih _)

section

variable (s : State)

/-- A change of a unit's outbox, next serial or waiting demands. -/
theorem touches_modUnit_outboxes (a : Nat) (f : UnitRec → UnitRec) (hi : ∀ u, (f u).identity = u.identity := by intros; rfl)
    (hs : ∀ u, (f u).standing = u.standing := by intros; rfl) (hz : ∀ u, (f u).hazard = u.hazard := by intros; rfl) :
    Touches [.outboxes] s (s.modUnit a f) := by
  intro p hp
  have hr := s.same_refl p
  cases p <;> first
    | exact hr
    | exact absurd (by decide) hp
    | exact map_update_eq _ _ _ (fun u _ => hi u) _
    | exact map_update_eq _ _ _ (fun u _ => hs u) _
    | exact map_update_eq _ _ _ (fun u _ => hz u) _

/-- A change of a unit's class, contact, budget, key, pause or last heard time. -/
theorem touches_modUnit_contact (a : Nat) (f : UnitRec → UnitRec) (hi : ∀ u, (f u).identity = u.identity := by intros; rfl)
    (ht : ∀ u, (f u).traffic = u.traffic := by intros; rfl) (hz : ∀ u, (f u).hazard = u.hazard := by intros; rfl) :
    Touches [.contact] s (s.modUnit a f) := by
  intro p hp
  have hr := s.same_refl p
  cases p <;> first
    | exact hr
    | exact absurd (by decide) hp
    | exact map_update_eq _ _ _ (fun u _ => hi u) _
    | exact map_update_eq _ _ _ (fun u _ => ht u) _
    | exact map_update_eq _ _ _ (fun u _ => hz u) _

/-- A change of a unit's hazard base. -/
theorem touches_modUnit_hazard (a : Nat) (f : UnitRec → UnitRec) (hi : ∀ u, (f u).identity = u.identity := by intros; rfl)
    (hs : ∀ u, (f u).standing = u.standing := by intros; rfl) (ht : ∀ u, (f u).traffic = u.traffic := by intros; rfl) :
    Touches [.hazards] s (s.modUnit a f) := by
  intro p hp
  have hr := s.same_refl p
  cases p <;> first
    | exact hr
    | exact absurd (by decide) hp
    | exact map_update_eq _ _ _ (fun u _ => hi u) _
    | exact map_update_eq _ _ _ (fun u _ => hs u) _
    | exact map_update_eq _ _ _ (fun u _ => ht u) _

theorem touches_modOrder (h : Nat) (f : OrderRec → OrderRec) : Touches [.orders] s (s.modOrder h f) := by
  intro p hp
  have hr := s.same_refl p
  cases p <;> first | exact hr | exact absurd (by decide) hp

theorem touches_wos (w : Wos) : Touches [.orders] s { s with wos := w } := by
  intro p hp
  have hr := s.same_refl p
  cases p <;> first | exact hr | exact absurd (by decide) hp

/-- A change of a worker's condition. -/
theorem touches_modWorker (w : Nat) (f : WorkerRec → WorkerRec) (h : ∀ r, (f r).place = r.place := by intros; rfl) :
    Touches [.workers] s (s.modWorker w f) := by
  intro p hp
  have hr := s.same_refl p
  cases p <;> first
    | exact hr
    | exact absurd (by decide) hp
    | exact map_update_eq _ _ _ (fun r _ => h r) _

theorem touches_workers (ws : List WorkerRec) : Touches [.crews, .workers] s { s with lwm.workers := ws } := by
  intro p hp
  have hr := s.same_refl p
  cases p <;> first | exact hr | exact absurd (by decide) hp

/-- A change of an alarm's all-call. -/
theorem touches_modAlarm_calls (a : Nat) (f : AlarmRec → AlarmRec) (h : ∀ r, (f r).case = r.case := by intros; rfl) :
    Touches [.calls] s (s.modAlarm a f) := by
  intro p hp
  have hr := s.same_refl p
  cases p <;> first
    | exact hr
    | exact absurd (by decide) hp
    | exact ⟨map_update_eq _ _ _ (fun r _ => h r) _, rfl⟩

theorem touches_als (a : Als) (h : a.ackWindow = s.als.ackWindow) :
    Touches [.alarms, .calls, .siteAlarm] s { s with als := a } := by
  intro p hp
  have hr := s.same_refl p
  cases p <;> first | exact hr | exact And.intro rfl h | exact absurd (by decide) hp

theorem touches_modDevice_positions (d : Nat) (f : DeviceRec → DeviceRec) (hi : ∀ r, (f r).identity = r.identity := by intros; rfl)
    (ht : ∀ r, (f r).tags = r.tags := by intros; rfl) (hp : ∀ r, (f r).pendingStep = r.pendingStep := by intros; rfl) :
    Touches [.positions] s (s.modDevice d f) := by
  intro p hm
  have hr := s.same_refl p
  cases p <;> first
    | exact hr
    | exact absurd (by decide) hm
    | exact map_update_eq _ _ _ (fun r _ => hi r) _
    | exact map_update_eq _ _ _ (fun r _ => ht r) _
    | exact map_update_eq _ _ _ (fun r _ => hp r) _

theorem touches_modDevice_tags (d : Nat) (f : DeviceRec → DeviceRec) (hi : ∀ r, (f r).identity = r.identity := by intros; rfl)
    (hq : ∀ r, DeviceRec.standing (f r) = r.standing := by intros; rfl)
    (hp : ∀ r, (f r).pendingStep = r.pendingStep := by intros; rfl) : Touches [.tags] s (s.modDevice d f) := by
  intro p hm
  have hr := s.same_refl p
  cases p <;> first
    | exact hr
    | exact absurd (by decide) hm
    | exact map_update_eq _ _ _ (fun r _ => hi r) _
    | exact map_update_eq _ _ _ (fun r _ => hq r) _
    | exact map_update_eq _ _ _ (fun r _ => hp r) _

theorem touches_modDevice_pendingStep (d : Nat) (f : DeviceRec → DeviceRec) (hi : ∀ r, (f r).identity = r.identity := by intros; rfl)
    (hq : ∀ r, DeviceRec.standing (f r) = r.standing := by intros; rfl)
    (ht : ∀ r, (f r).tags = r.tags := by intros; rfl) : Touches [.pendingSteps] s (s.modDevice d f) := by
  intro p hm
  have hr := s.same_refl p
  cases p <;> first
    | exact hr
    | exact absurd (by decide) hm
    | exact map_update_eq _ _ _ (fun r _ => hi r) _
    | exact map_update_eq _ _ _ (fun r _ => hq r) _
    | exact map_update_eq _ _ _ (fun r _ => ht r) _

theorem touches_modStep (x : Nat) (f : StepRec → StepRec) : Touches [.steps] s (s.modStep x f) := by
  intro p hp
  have hr := s.same_refl p
  cases p <;> first | exact hr | exact absurd (by decide) hp

theorem touches_steps (xs : List StepRec) (n : Nat) : Touches [.steps] s { s with swr.steps := xs, swr.nextStep := n } := by
  intro p hp
  have hr := s.same_refl p
  cases p <;> first | exact hr | exact absurd (by decide) hp

theorem touches_stepList (xs : List StepRec) : Touches [.steps] s { s with swr.steps := xs } := by
  intro p hp
  have hr := s.same_refl p
  cases p <;> first | exact hr | exact absurd (by decide) hp

/-- A change of what has become of a permit's frames. -/
theorem touches_modPermit_deliveries (n : Nat) (f : PermitRec → PermitRec) (h : ∀ r, (f r).authority = r.authority := by intros; rfl) :
    Touches [.deliveries] s (s.modPermit n f) := by
  intro p hp
  have hr := s.same_refl p
  cases p <;> first
    | exact hr
    | exact absurd (by decide) hp
    | exact map_update_eq _ _ _ (fun r _ => h r) _

theorem touches_permitList (ps : List PermitRec) : Touches [.permits, .deliveries] s { s with pmt.permits := ps } := by
  intro p hp
  have hr := s.same_refl p
  cases p <;> first | exact hr | exact absurd (by decide) hp

theorem touches_modPermit (n : Nat) (f : PermitRec → PermitRec) : Touches [.permits, .deliveries] s (s.modPermit n f) :=
  touches_permitList s _

theorem touches_closing (xs : List ClosingItem) : Touches [.closing] s { s with pmt.closing := xs } := by
  intro p hp
  have hr := s.same_refl p
  cases p <;> first | exact hr | exact absurd (by decide) hp

/-- A change of the running cycle's records. -/
theorem touches_modPsc_cycle (f : Psc → Psc)
    (h : (f s.psc).estimate = s.psc.estimate ∧ (f s.psc).doublePoll = s.psc.doublePoll
      ∧ (f s.psc).timing = s.psc.timing ∧ (f s.psc).service = s.psc.service
      ∧ (f s.psc).broadcast = s.psc.broadcast) : Touches [.cycle] s (s.modPsc f) := by
  obtain ⟨h1, h2, h3, h4, h5⟩ := h
  intro p hp
  have hr := s.same_refl p
  cases p <;> first | exact hr | exact And.intro h1 rfl | exact h2 | exact And.intro h3 rfl | exact h4 | exact h5 | exact absurd (by decide) hp

/-- A change of the estimate and the grace that LWM holds. -/
theorem touches_lwmEstimate (d g : Nat) :
    Touches [.estimate, .timing] s { s with lwm.estimate := d, lwm.grace := g } := by
  intro p hp
  have hr := s.same_refl p
  cases p <;> first | exact hr | exact absurd (by decide) hp

theorem touches_lwmEstimateOnly (d : Nat) :
    Touches [.estimate] s { s with lwm.estimate := d, lwm.grace := s.lwm.grace } := by
  intro p hp
  have hr := s.same_refl p
  cases p <;> first | exact hr | exact absurd (by decide) hp

theorem touches_broadcast (xs : List CallEntry) : Touches [.broadcast] s (s.modPsc (fun p => { p with broadcast := xs })) := by
  intro p hp
  have hr := s.same_refl p
  cases p <;> first | exact hr | exact absurd (by decide) hp

theorem touches_doublePoll (xs : List Nat) :
    Touches [.doublePoll] s (s.modPsc (fun p => { p with doublePoll := xs })) := by
  intro p hp
  have hr := s.same_refl p
  cases p <;> first | exact hr | exact absurd (by decide) hp

theorem touches_pscEstimate (c : Nat) : Touches [.estimate] s (s.modPsc (fun p => { p with estimate := c })) := by
  intro p hp
  have hr := s.same_refl p
  cases p <;> first | exact hr | exact absurd (by decide) hp

/-- A change of the transmitter or the receiver. -/
theorem touches_modAle (f : Ale → Ale)
    (h : (f s.ale).counters = s.ale.counters ∧ (f s.ale).rateTable = s.ale.rateTable ∧ (f s.ale).syncA = s.ale.syncA
      ∧ (f s.ale).syncB = s.ale.syncB) : Touches [.transmitter, .receiver] s (s.modAle f) := by
  obtain ⟨h1, h2, h3, h4⟩ := h
  intro p hp
  have hr := s.same_refl p
  cases p <;> first | exact hr | exact h1 | exact h2 | exact And.intro h3 h4 | exact absurd (by decide) hp

/-- A change of the receiver and its counters. -/
theorem touches_modAle_receiver (f : Ale → Ale)
    (h : (f s.ale).txState = s.ale.txState ∧ (f s.ale).txFrame = s.ale.txFrame ∧ (f s.ale).pttTime = s.ale.pttTime
      ∧ (f s.ale).rateTable = s.ale.rateTable ∧ (f s.ale).syncA = s.ale.syncA ∧ (f s.ale).syncB = s.ale.syncB) :
    Touches [.receiver, .counters] s (s.modAle f) := by
  obtain ⟨h1, h2, h3, h4, h5, h6⟩ := h
  intro p hp
  have hr := s.same_refl p
  cases p <;> first | exact hr | exact And.intro h1 (And.intro h2 h3) | exact h4 | exact And.intro h5 h6 | exact absurd (by decide) hp

theorem touches_enqueue (e : EventEntry) : Touches [.queue] s (s.modClp (Clp.enqueue e)) := by
  intro p hp
  have hr := s.same_refl p
  cases p <;> first
    | exact hr
    | exact absurd (by decide) hp
    | (simp only [State.same, State.modClp, Clp.enqueue]; split_ifs <;> simp)

end

end Sys2Proof.Machine
end

