-- ==== Sys2Proof/Laws/Footprints.lean ====
section
/-! SUPPORT. What each shared operation may write, said once: its footprint as a list of parts. A longer operation's
footprint is put together with `Touches.step`. -/

set_option Elab.async false

namespace Sys2Proof.Machine

/-- Go on with a change whose footprint lies within the one claimed. -/
theorem Touches.step {ps qs : List Part} {s t u : State} (h2 : Touches qs t u) (h : Touches ps s t)
    (hs : ∀ p ∈ qs, p ∈ ps := by decide) : Touches ps s u := h.trans (h2.mono hs)

/-- A change whose footprint lies within the one claimed. -/
theorem Touches.of {ps qs : List Part} {s t : State} (h : Touches qs s t) (hs : ∀ p ∈ qs, p ∈ ps := by decide) :
    Touches ps s t := h.mono hs

theorem Touches.ite {ps : List Part} {s a b : State} {c : Prop} [Decidable c] (ha : Touches ps s a)
    (hb : Touches ps s b) : Touches ps s (if c then a else b) := by
  split
  · exact ha
  · exact hb

section

variable (s : State)

/-! ## Events (R166, R167) -/

theorem touches_raiseAtLeast (n : Nat) (k : EventKind) (x : Subject) (d : List Byte) :
    Touches [.queue] s (s.raiseAtLeast n k x d) := by
  unfold State.raiseAtLeast
  exact .ite (.refl _ _) (touches_enqueue s _)

theorem touches_raise (k : EventKind) (x : Subject) (d : List Byte) : Touches [.queue] s (s.raise k x d) :=
  touches_raiseAtLeast s 0 k x d

theorem touches_updateSiteAlarm : Touches [.siteAlarm] s s.updateSiteAlarm := by
  intro p hp
  have hr := s.same_refl p
  cases p <;> first | exact hr | exact absurd (by decide) hp

/-! ## Outboxes (R54, R55, R141) -/

theorem touches_noteFrame (a : Nat) (src : Source) (c : Content) (n : Option Nat) :
    Touches [.deliveries] s (s.noteFrame a src c n) := by
  unfold State.noteFrame
  split
  · refine touches_modPermit_deliveries s _ _ (fun r => ?_)
    unfold PermitRec.noteFrame
    split_ifs <;> rfl
  · exact .refl _ _

theorem touches_enterEntry (u : UnitRec) (d : Demand) : Touches [.outboxes, .deliveries] s (s.enterEntry u d) :=
  .step (touches_noteFrame _ _ _ _ _) (.of (touches_modUnit_outboxes s _ (UnitRec.enter _ _ d)))

theorem touches_demand (u : UnitRec) (d : Demand) : Touches [.outboxes, .deliveries] s (s.demand u d) := by
  unfold State.demand
  refine .ite (touches_enterEntry s u d) (.step (touches_noteFrame _ _ _ _ _) ?_)
  exact .of (touches_modUnit_outboxes s _ (UnitRec.addDemand d))

/-- Placing or replacing a frame writes the outboxes and what a permit is told of its frames. -/
theorem touches_send (a : Nat) (src : Source) (c : Content) (cls : Nat) (em : Bool) :
    Touches [.outboxes, .deliveries] s (s.send a src c cls em) := by
  unfold State.send
  split
  · exact .refl _ _
  · refine .ite (.step (touches_noteFrame _ _ _ _ _) ?_) (.ite (.step (touches_noteFrame _ _ _ _ _) ?_) ?_)
    · exact .of (touches_modUnit_outboxes s _ _)
    · exact .of (touches_modUnit_outboxes s _ _)
    · exact touches_demand s _ _

theorem touches_unwait (a : Nat) (d : Demand) : Touches [.outboxes, .closing] s (s.unwait a d) := by
  unfold State.unwait
  split
  · exact .of (touches_closing s _)
  · exact .of (touches_modUnit_outboxes s _ _)

theorem touches_admitOne (a : Nat) : Touches Part.air s (s.admitOne a) := by
  unfold State.admitOne
  split
  · exact .refl _ _
  · refine .ite ?_ (.refl _ _)
    split
    · exact .refl _ _
    · exact .step (touches_enterEntry _ _ _) (.of (touches_unwait s _ _))

theorem touches_admitTimes (a n : Nat) : Touches Part.air s (s.admitTimes a n) := by
  induction n generalizing s with
  | zero => exact Touches.refl _ _
  | succ n ih => exact (touches_admitOne s a).trans (ih _)

theorem touches_admit (a : Nat) : Touches Part.air s (s.admitWaiting a) := touches_admitTimes s a _

theorem touches_withdraw (a : Nat) (src : Source) : Touches Part.air s (s.withdraw a src) :=
  .step (touches_admit _ a) (.of (touches_modUnit_outboxes s a (UnitRec.drop src)))

/-! ## The broadcast outbox (R115) -/

theorem touches_enterCall (a : Nat) : Touches [.broadcast, .calls] s (s.enterCall a) :=
  .step (touches_modAlarm_calls _ a _) (.of (touches_broadcast s _))

theorem touches_demandCall (a : Nat) : Touches [.broadcast, .calls] s (s.demandCall a) := by
  unfold State.demandCall
  exact .ite (touches_enterCall s a) (.of (touches_modAlarm_calls s a _))

theorem touches_admitCallOne : Touches [.broadcast, .calls] s s.admitCallOne := by
  unfold State.admitCallOne
  refine .ite ?_ (.refl _ _)
  split
  · exact .refl _ _
  · exact touches_enterCall s _

theorem touches_admitCalls : Touches [.broadcast, .calls] s s.admitCalls :=
  (touches_admitCallOne s).trans (touches_admitCallOne _)

theorem touches_withdrawCall (a : Nat) : Touches [.broadcast, .calls] s (s.withdrawCall a) :=
  .step (touches_admitCalls _) (.step (touches_broadcast _ _) (.of (touches_modAlarm_calls s a _)))

/-! ## Workers (R46, R87 to R90, R95) -/

theorem touches_raiseStretched (w : WorkerRec) : Touches [.queue] s (s.raiseStretched w) := touches_raise s _ _ _

theorem touches_fallDue (i : Nat) : Touches Part.crewed s (s.fallDue i) := by
  unfold State.fallDue
  split
  · exact .refl _ _
  · exact .step (touches_raise _ _ _ _) (.step (touches_send _ _ _ _ _ _) (.of (touches_modWorker s _ _)))

theorem touches_rebase (i : Nat) : Touches Part.crewed s (s.rebase i) := by
  unfold State.rebase
  split
  · exact .refl _ _
  · exact .ite (.ite (touches_fallDue s i) (.of (touches_modWorker s _ _))) (.refl _ _)

theorem touches_recomputeWorker (i : Nat) : Touches Part.crewed s (s.recomputeWorker i) := by
  unfold State.recomputeWorker
  split
  · exact .refl _ _
  · refine .step (touches_rebase _ i) (.ite (.step (touches_raiseStretched _ _) ?_) ?_)
    · exact .of (touches_modWorker s _ _)
    · exact .of (touches_modWorker s _ _)

theorem touches_recomputeWorkers (is : List Nat) : Touches Part.crewed s (s.recomputeWorkers is) :=
  .foldl (fun s i => touches_recomputeWorker s i) is s

theorem touches_publish (c g : Nat) : Touches (.timing :: Part.crewed) s (s.publish c g) := by
  unfold State.publish
  split
  · exact .refl _ _
  · exact .step (touches_recomputeWorkers _ _) (.of (touches_lwmEstimate s c g))

theorem touches_recomputeEstimateWith (g : Nat) : Touches (.timing :: Part.crewed) s (s.recomputeEstimateWith g) := by
  unfold State.recomputeEstimateWith
  exact .ite (touches_publish s _ g)
    (.step (touches_raise _ _ _ _) (.step (touches_publish _ _ g) (.of (touches_pscEstimate s _))))

/-- A recomputation with the grace that LWM holds leaves the timing as it was. -/
theorem touches_recomputeEstimate : Touches Part.crewed s s.recomputeEstimate := by
  have hp : ∀ t : State, t.lwm.grace = s.lwm.grace → ∀ c, Touches Part.crewed t (t.publish c s.lwm.grace) := by
    intro t ht c
    unfold State.publish
    split
    · exact .refl _ _
    · rw [← ht]
      exact .step (touches_recomputeWorkers _ _) (.of (touches_lwmEstimateOnly t c))
  unfold State.recomputeEstimate State.recomputeEstimateWith
  refine .ite (hp s rfl _) (.step (touches_raise _ _ _ _) (.step (hp _ (by rfl) _) (.of (touches_pscEstimate s _))))

theorem touches_dropPrompt (w : WorkerRec) : Touches Part.air s (s.dropPrompt w) := touches_withdraw s _ _

theorem touches_enterOk (i t : Nat) : Touches Part.crewed s (s.enterOk i t) := by
  unfold State.enterOk
  split
  · exact .refl _ _
  · refine .step (touches_rebase _ i) (.ite (.step (touches_raiseStretched _ _) ?_) ?_)
    all_goals exact .step (touches_dropPrompt _ _) (.of (touches_modWorker s _ _))

theorem touches_enterInactive (i : Nat) : Touches Part.crewed s (s.enterInactive i) := by
  unfold State.enterInactive
  split
  · exact .refl _ _
  · exact .step (touches_dropPrompt _ _) (.of (touches_modWorker s _ _))

theorem touches_enterAlarm (i : Nat) : Touches Part.crewed s (s.enterAlarm i) := by
  unfold State.enterAlarm
  split
  · exact .refl _ _
  · exact .step (touches_dropPrompt _ _) (.of (touches_modWorker s _ _))

/-! ## The double-poll set (R117) -/

theorem touches_toggleDouble (a : Nat) : Touches Part.settled s (s.toggleDouble a) :=
  .step (touches_recomputeEstimate _) (.of (touches_doublePoll s _))

theorem touches_settleTimes (n : Nat) : Touches Part.settled s (s.settleTimes n) := by
  induction n generalizing s with
  | zero => exact Touches.refl _ _
  | succ n ih =>
    unfold State.settleTimes
    split
    · exact .refl _ _
    · exact (touches_toggleDouble s _).trans (ih _)

theorem touches_settle : Touches Part.settled s s.settle := touches_settleTimes s _

/-! ## Alarms (R107 to R114) -/

theorem touches_openAlarm (w : WorkerRec) (c : Cause) : Touches Part.alarmed s (s.openAlarm w c) :=
  .step (touches_raise _ _ _ _) (.step (touches_enterAlarm _ _) (.of (touches_als s _ rfl)))

theorem touches_modAlarm (a : Nat) (f : AlarmRec → AlarmRec) :
    Touches [.alarms, .calls, .siteAlarm] s (s.modAlarm a f) := touches_als s _ rfl

theorem touches_mergeCause (r : AlarmRec) (c : Cause) : Touches Part.alarmed s (s.mergeCause r c) :=
  .step (touches_raise _ _ _ _) (.of (touches_modAlarm s _ _))

/-- A cause handed to the alarm list opens an alarm or merges into one. -/
theorem touches_handCause (w : Nat) (c : Cause) : Touches Part.alarmed s (s.handCause w c) := by
  unfold State.handCause
  split
  · exact .refl _ _
  · dsimp only
    split
    · exact .step (touches_openAlarm _ _ _) (.of (touches_modWorker s _ _))
    · exact .step (touches_mergeCause _ _ _) (.of (touches_modWorker s _ _))

theorem touches_passWindow (r : AlarmRec) : Touches Part.alarmed s (s.passWindow r) :=
  .step (touches_raise _ _ _ _) (.of (touches_modAlarm s _ _))

theorem touches_raisedWindowEnd (r : AlarmRec) : Touches Part.alarmed s (s.raisedWindowEnd r) :=
  .step (touches_updateSiteAlarm _) (.step (touches_demandCall _ _) (touches_passWindow s r))

theorem touches_unansweredWindowEnd (r : AlarmRec) : Touches Part.alarmed s (s.unansweredWindowEnd r) := by
  unfold State.unansweredWindowEnd
  exact .ite (.step (touches_demandCall _ _) (touches_passWindow s r)) (touches_passWindow s r)

/-! ## Reports and check-ins (R92, R93) -/

theorem touches_noteCheckin (i t : Nat) : Touches Part.crewed s (s.noteCheckin i t) :=
  .of (touches_modWorker s _ _)

theorem touches_checkIn (i : Nat) (own : Option Condition) (t : Nat) : Touches Part.crewed s (s.checkIn i own t) := by
  unfold State.checkIn
  split
  · exact .refl _ _
  · split
    · exact .refl _ _
    · exact .step (touches_rebase _ i) (touches_noteCheckin s i t)
    · exact .step (touches_raise _ _ _ _) (touches_enterOk s i t)
    · exact .ite (.step (touches_raise _ _ _ _) (touches_enterOk s i t)) (touches_noteCheckin s i t)
    · exact .ite (.step (touches_modWorker _ _ _) (.step (touches_raise _ _ _ _) (touches_noteCheckin s i t))) (touches_noteCheckin s i t)

theorem touches_crewCheckIn (a t : Nat) : Touches Part.crewed s (s.crewCheckIn a t) :=
  .foldl (fun s i => touches_checkIn s i none t) _ s

theorem touches_enterPrealert (w : WorkerRec) (t : Nat) : Touches Part.crewed s (s.enterPrealert w t) :=
  .step (touches_raise _ _ _ _) (.step (touches_send _ _ _ _ _ _) (.of (touches_modWorker s _ _)))

theorem touches_manDown (w : WorkerRec) (t : Nat) : Touches Part.alarmed s (s.manDown w t) := by
  unfold State.manDown
  split
  · exact .of (touches_enterPrealert s w t)
  · exact .of (touches_enterPrealert s w t)
  · exact touches_handCause s _ _
  · exact .refl _ _
  · exact .refl _ _

theorem touches_actOnReport (w : WorkerRec) (c : Condition) (fresh : Bool) (t : Nat) :
    Touches Part.alarmed s (s.actOnReport w c fresh t) := by
  unfold State.actOnReport
  split
  · exact .of (touches_checkIn s _ _ t)
  · exact .of (touches_checkIn s _ _ t)
  · exact .ite (.of (touches_raise s _ _ _)) (.refl _ _)
  · exact .ite (touches_manDown s w t) (.refl _ _)
  · exact .ite (touches_handCause s _ _) (.refl _ _)

theorem touches_report (a slot : Nat) (c : Condition) (alert : Bool) (t : Nat) :
    Touches Part.alarmed s (s.report a slot c alert t) := by
  unfold State.report
  split
  · exact .ite (.of (touches_raise s _ _ _)) (.refl _ _)
  · exact .ite (.refl _ _) (.step (touches_modWorker _ _ _) (touches_actOnReport s _ c _ t))

/-! ## Orders (R65, R66, R71 to R81) -/

theorem touches_placeFrame (h c : Nat) : Touches Part.air s (s.placeFrame h c) := by
  unfold State.placeFrame
  split
  · exact .refl _ _
  · refine .ite (.refl _ _) ?_
    split
    · exact .of (touches_send s _ _ _ _ _)
    · exact touches_withdraw s _ _

theorem touches_raiseOrderState (o : OrderRec) (b : Option OrderState) (x : OrderState) (c : OrderCause)
    (p : Option Nat) (f : Bool) : Touches [.queue] s (s.raiseOrderState o b x c p f) := touches_raiseAtLeast s _ _ _ _

theorem touches_recomputeHazard (a : Nat) : Touches (.hazards :: Part.crewed) s (s.recomputeHazard a) := by
  unfold State.recomputeHazard
  refine .ite (.refl _ _) (.step (touches_recomputeWorkers _ _) ?_)
  exact .of (touches_modUnit_hazard s a _)

theorem touches_moveOrder (h : Nat) (st : OrderState) (c : OrderCause) (p : Option Nat) (f : Bool) :
    Touches Part.worked s (s.moveOrder h st c p f) := by
  unfold State.moveOrder
  split
  · exact .refl _ _
  · refine .ite (.step (touches_recomputeHazard _ _) ?_) ?_
    all_goals exact .step (touches_raiseOrderState _ _ _ _ _ _ _) (.step (touches_placeFrame _ _ _) (.of (touches_modOrder s _ _)))

theorem touches_chooseSending (a : Nat) : Touches Part.worked s (s.chooseSending a) := by
  unfold State.chooseSending
  split
  · exact .refl _ _
  · refine .ite ?_ (.refl _ _)
    split
    · exact .refl _ _
    · exact touches_moveOrder s _ _ _ _ _

theorem touches_endOrder (h : Nat) (st : OrderState) (c : OrderCause) : Touches Part.worked s (s.endOrder h st c) := by
  unfold State.endOrder
  split
  · exact .refl _ _
  · refine .ite (.step (touches_chooseSending _ _) (.ite (.step (touches_recomputeHazard _ _) ?_) ?_))
      (.ite (.step (touches_recomputeHazard _ _) ?_) ?_)
    all_goals exact .step (touches_wos _ _) (.step (touches_raiseOrderState _ _ _ _ _ _ _) (.of (touches_withdraw s _ _)))

theorem touches_raiseRecallUndelivered (o : OrderRec) (f : Bool) : Touches [.queue] s (s.raiseRecallUndelivered o f) :=
  touches_raise s _ _ _

theorem touches_segmentAcknowledged (h i : Nat) : Touches Part.worked s (s.segmentAcknowledged h i) := by
  unfold State.segmentAcknowledged
  dsimp only
  split
  · exact .of (touches_modOrder s _ _)
  · exact .ite (.step (touches_placeFrame _ _ _) (.of (touches_modOrder s _ _)))
      (.step (touches_chooseSending _ _) (.step (touches_moveOrder _ _ _ _ _ _) (.of (touches_modOrder s _ _))))

theorem touches_stopAcknowledged (h : Nat) : Touches Part.worked s (s.stopAcknowledged h) := by
  unfold State.stopAcknowledged
  split
  · exact .refl _ _
  · exact .step (touches_raiseOrderState _ _ _ _ _ _ _) (.ite (.of (touches_modOrder s _ _)) (.step (touches_placeFrame _ _ _) (.of (touches_modOrder s _ _))))

theorem touches_noticeAcknowledged (h : Nat) (n : OrderNotice) : Touches Part.worked s (s.noticeAcknowledged h n) := by
  unfold State.noticeAcknowledged
  split
  · exact touches_moveOrder s _ _ _ _ _
  · exact touches_stopAcknowledged s h
  · exact touches_endOrder s _ _ _

theorem touches_noticeUndelivered (h : Nat) (n : OrderNotice) : Touches Part.worked s (s.noticeUndelivered h n) := by
  unfold State.noticeUndelivered
  split
  · exact touches_moveOrder s _ _ _ _ _
  · split
    · exact .refl _ _
    · exact .step (touches_raiseRecallUndelivered _ _ _) (touches_endOrder s _ _ _)
  · exact .refl _ _

theorem touches_gate (o : OrderRec) (c : OrderCause) : Touches Part.worked s (s.gate o c) := by
  unfold State.gate
  exact .ite (touches_moveOrder s _ _ _ _ _) (.ite (.refl _ _) (touches_moveOrder s _ _ _ _ _))

theorem touches_ignoreOrderItem (a h : Nat) (c : CrewState) (m : Nat) :
    Touches [.queue] s (s.ignoreOrderItem a h c m) := touches_raise s _ _ _

theorem touches_crewReport (a h : Nat) (c : CrewState) : Touches Part.worked s (s.crewReport a h c) := by
  unfold State.crewReport
  split
  · exact .of (touches_ignoreOrderItem s _ _ _ _)
  · refine .ite (.of (touches_ignoreOrderItem s _ _ _ _)) ?_
    split
    · exact touches_endOrder s _ _ _
    · exact touches_endOrder s _ _ _
    · exact touches_moveOrder s _ _ _ _ _
    · exact touches_gate s _ _
    · exact .refl _ _
    · exact .of (touches_ignoreOrderItem s _ _ _ _)

theorem touches_toldActive (p : Nat) : Touches Part.worked s (s.toldActive p) :=
  .foldl (fun s (o : OrderRec) => touches_moveOrder s o.handle _ _ _ _) _ s

theorem touches_toldSuspended (p : Nat) : Touches Part.worked s (s.toldSuspended p) :=
  .foldl (fun s (o : OrderRec) => touches_moveOrder s o.handle _ _ _ _) _ s

theorem touches_unlink (h p : Nat) : Touches [.orders] s (s.unlink h p) := touches_modOrder s _ _

theorem touches_blockOrder (p : Nat) (f : Bool) (h : Nat) : Touches Part.worked s (s.blockOrder p f h) := by
  have stopped : ∀ o : OrderRec, Touches Part.worked s
      (if (f && o.state.counted) = true then s.moveOrder h .stopped .permitChange (some p) false else s) :=
    fun _ => .ite (touches_moveOrder s _ _ _ _ _) (.refl _ _)
  unfold State.blockOrder
  split
  · exact .refl _ _
  · refine .ite (.of (touches_unlink s h p)) ?_
    dsimp only
    split
    · exact stopped _
    · exact .step (touches_moveOrder _ _ _ _ _ _) (.step (touches_modOrder _ _ _) (.step (touches_unlink _ h p) (stopped _)))

theorem touches_toldClosed (p : Nat) (f : Bool) : Touches Part.worked s (s.toldClosed p f) :=
  .step (.foldl (fun s (o : OrderRec) => touches_chooseSending s o.unit) _ _) (.foldl (fun s (o : OrderRec) => touches_blockOrder s p f o.handle) _ s)

end

end Sys2Proof.Machine
end

