-- ==== Sys2Proof/Laws/FootprintsPermits.lean ====
section
/-! SUPPORT. What each shared operation of the permit table and the switching register may write. -/

set_option Elab.async false

namespace Sys2Proof.Machine

section

variable (s : State)

/-! ## Tags (R122) -/

theorem tag_standing (p : Nat) (t : Millis) (d : DeviceRec) :
    (d.tag p t).identity = d.identity ∧ (d.tag p t).standing = d.standing
      ∧ (d.tag p t).pendingStep = d.pendingStep := by
  unfold DeviceRec.tag
  split <;> exact ⟨rfl, rfl, rfl⟩

theorem touches_tagPoints (p : Nat) (pts : List Point) : Touches [.tags] s (s.tagPoints p pts) :=
  .foldl (fun s (q : Point) => touches_modDevice_tags s q.device _ (fun d => (tag_standing p _ d).1)
    (fun d => (tag_standing p _ d).2.1) (fun d => (tag_standing p _ d).2.2)) pts s

theorem touches_untagPoints (p : Nat) (pts : List Point) : Touches [.tags] s (s.untagPoints p pts) :=
  .foldl (fun s (q : Point) => touches_modDevice_tags s q.device (DeviceRec.untag p)) pts s

/-! ## Frames and events of a permit (R141, R147, R151) -/

theorem touches_raisePermitState (r : PermitRec) (b x : Nat) (c : PermitCause) (d : List Byte) :
    Touches [.queue] s (s.raisePermitState r b x c d) := touches_raise s _ _ _

theorem touches_notePermitState (p b : Nat) (c : PermitCause) (d : List Byte) :
    Touches [.queue] s (s.notePermitState p b c d) := by
  unfold State.notePermitState
  split
  · exact .refl _ _
  · exact touches_raisePermitState s _ _ _ _ _

theorem touches_sendPermitTo (p : Nat) (l : Latest) (c : Content) (cls a : Nat) :
    Touches [.outboxes, .deliveries] s (s.sendPermitTo p l c cls a) :=
  .step (touches_send _ _ _ _ _ _) (.of (touches_modPermit_deliveries s p (PermitRec.setLatest a l)))

theorem touches_sendOffers (p : Nat) : Touches [.outboxes, .deliveries] s (s.sendOffers p) := by
  unfold State.sendOffers
  split
  · exact .refl _ _
  · exact .ite (.refl _ _) (.foldl (fun s a => touches_sendPermitTo s p _ _ _ a) _ s)

theorem touches_sendNotices (p : Nat) (l : Latest) (n : PermitNotice) :
    Touches [.outboxes, .deliveries] s (s.sendNotices p l n) := by
  unfold State.sendNotices
  split
  · exact .refl _ _
  · exact .ite (.refl _ _) (.foldl (fun s a => touches_sendPermitTo s p _ _ _ a) _ s)

/-! ## Activation and suspension (R146 to R149) -/

theorem touches_activate (p : Nat) (c : PermitCause) : Touches Part.permitted s (s.activate p c) := by
  unfold State.activate
  split
  · exact .refl _ _
  · refine .step (touches_notePermitState _ _ _ _ _) (.ite (.step (touches_toldActive _ _) ?_) ?_)
    all_goals exact .step (touches_sendNotices _ _ _ _) (.of (touches_modPermit s _ _))

theorem touches_testActivation (p : Nat) (c : PermitCause) : Touches Part.permitted s (s.testActivation p c) := by
  unfold State.testActivation
  split
  · exact .refl _ _
  · exact .ite (touches_activate s p c) (.refl _ _)

theorem touches_suspendPermit (p : Nat) (c : SuspensionCause) : Touches Part.permitted s (s.suspendPermit p c) := by
  unfold State.suspendPermit
  split
  · exact .refl _ _
  · refine .step (touches_notePermitState _ _ _ _ _) (.ite ?_ (.step (touches_toldSuspended _ _) ?_))
    all_goals exact .step (touches_sendNotices _ _ _ _) (.of (touches_modPermit s _ _))

theorem touches_toldViolation (d : Nat) (ts : List Tag) : Touches Part.permitted s (s.toldViolation d ts) :=
  .foldl (fun s (t : Tag) => touches_suspendPermit s t.permit _) ts s

/-! ## Radio outcomes and items (R145, R151, R153, R156) -/

theorem touches_permitAcknowledged (p a : Nat) : Touches [.deliveries] s (s.permitAcknowledged p a) :=
  touches_modPermit_deliveries s p (PermitRec.setDelivery a .acknowledged)

theorem touches_raiseNoticeUndelivered (p a : Nat) (n : PermitNotice) (x : Nat) (d : Bool) :
    Touches [.queue] s (s.raiseNoticeUndelivered p a n x d) := touches_raise s _ _ _

theorem touches_permitUndelivered (p a : Nat) (c : Content) (x : Nat) :
    Touches [.deliveries, .queue] s (s.permitUndelivered p a c x) := by
  unfold State.permitUndelivered
  dsimp only
  split
  · exact .step (touches_raise _ _ _ _) (.of (touches_modPermit_deliveries s p (PermitRec.setDelivery a .undelivered)))
  · exact .step (touches_raiseNoticeUndelivered _ _ _ _ _ _)
      (.of (touches_modPermit_deliveries s p (PermitRec.setDelivery a .undelivered)))
  · exact .of (touches_modPermit_deliveries s p (PermitRec.setDelivery a .undelivered))

theorem touches_permitUnacknowledged (p a : Nat) (c : Content) (x : Nat) :
    Touches [.queue] s (s.permitUnacknowledged p a c x) := by
  unfold State.permitUnacknowledged
  split
  · exact touches_raiseNoticeUndelivered s _ _ _ _ _
  · exact .refl _ _

theorem touches_ignorePermitItem (a p k : Nat) (c : List Byte) : Touches [.queue] s (s.ignorePermitItem a p k c) :=
  touches_raise s _ _ _

theorem touches_staleAccept (r : PermitRec) (n x : Nat) : Touches [.queue] s (s.staleAccept r n x) :=
  touches_raise s _ _ _

theorem touches_takeAccept (r : PermitRec) : Touches Part.permitted s (s.takeAccept r) := by
  unfold State.takeAccept
  refine .step (touches_testActivation _ _ _) (.ite (.step (touches_withdraw _ _ _) ?_) ?_)
  all_goals exact .step (touches_modPermit _ _ _) (.of (touches_modPermit s _ _))

theorem touches_permitAccept (a p n x : Nat) : Touches Part.permitted s (s.permitAccept a p n x) := by
  unfold State.permitAccept
  split
  · exact .of (touches_ignorePermitItem s _ _ _ _)
  · refine .ite (.of (touches_ignorePermitItem s _ _ _ _)) (.ite ?_ (.of (touches_staleAccept s _ _ _)))
    split
    · exact touches_takeAccept s _
    · exact .ite (.refl _ _) (touches_takeAccept s _)
    · exact .refl _ _
    · exact .refl _ _
    · exact .of (touches_staleAccept s _ _ _)

theorem touches_surrender (r : PermitRec) : Touches Part.permitted s (s.surrender r) := by
  unfold State.surrender
  dsimp only
  split
  · exact .of (touches_raise s _ _ _)
  · split
    · exact .of (touches_raise s _ _ _)
    · exact .step (touches_notePermitState _ _ _ _ _) (.of (touches_modPermit s _ _))

theorem touches_permitSurrender (a p : Nat) : Touches Part.permitted s (s.permitSurrender a p) := by
  unfold State.permitSurrender
  split
  · exact .of (touches_ignorePermitItem s _ _ _ _)
  · refine .ite (.of (touches_ignorePermitItem s _ _ _ _)) ?_
    split
    · exact .of (touches_ignorePermitItem s _ _ _ _)
    · exact .of (touches_ignorePermitItem s _ _ _ _)
    · exact .refl _ _
    · exact touches_surrender s _
    · exact touches_surrender s _

/-! ## Closing (R144, R152) -/

theorem touches_withdrawFrames (r : PermitRec) : Touches Part.air s (s.withdrawFrames r) :=
  .foldl (fun s a => touches_withdraw s a _) _ s

theorem touches_placeClosed (p a : Nat) : Touches Part.crewed s (s.placeClosed p a) := by
  unfold State.placeClosed
  split
  · exact .refl _ _
  · exact .ite (.of (touches_enterEntry s _ _))
      (.ite (.of (touches_closing s _)) (.of (touches_raiseNoticeUndelivered s _ _ _ _ _)))

theorem touches_placeAllClosed (p : Nat) (as : List Nat) : Touches Part.crewed s (s.placeAllClosed p as).1 := by
  induction as generalizing s with
  | nil => exact Touches.refl _ _
  | cons a as ih =>
    have h := (touches_placeClosed s p a).trans (ih _)
    unfold State.placeAllClosed
    dsimp only
    split_ifs <;> exact h

theorem touches_freePermit (p : Nat) : Touches [.permits, .deliveries] s (s.freePermit p) := touches_permitList s _

theorem touches_closePermit (r : PermitRec) (f : Bool) : Touches Part.permitted s (s.closePermit r f).1 := by
  unfold State.closePermit
  refine .step (touches_freePermit _ _) ?_
  have h : Touches Part.permitted s ((((s.untagPoints r.number r.points).withdrawFrames r).placeAllClosed r.number
      r.members).1.toldClosed r.number f) :=
    .step (touches_toldClosed _ _ _) (.step (touches_placeAllClosed _ _ _)
      (.step (touches_withdrawFrames _ _) (.of (touches_untagPoints s _ _))))
  split
  · exact h
  · exact .step (touches_raisePermitState _ _ _ _ _ _) h

theorem touches_goFrames (r : PermitRec) : Touches [.outboxes, .deliveries] s (s.goFrames r) := by
  unfold State.goFrames
  split
  · exact touches_sendOffers s _
  · exact touches_sendNotices s _ _ _
  · exact touches_sendNotices s _ _ _
  · exact .refl _ _

theorem touches_goPermits : Touches Part.worked s s.goPermits :=
  .step (qs := Part.worked) (.foldl (fun s (r : PermitRec) => touches_toldActive s r.number) _ _)
    (.of (qs := [.outboxes, .deliveries]) (.foldl (fun s (r : PermitRec) => touches_goFrames s r) _ s))

/-! ## Positions and steps (R123, R127 to R136) -/

theorem touches_recordPosition (d : Nat) (p : Position) (x : PositionSource) (t : Millis) :
    Touches [.positions] s (s.recordPosition d p x t) := touches_modDevice_positions s d _

theorem touches_checkViolation (d : Nat) (x : Option Nat) : Touches Part.permitted s (s.checkViolation d x) := by
  unfold State.checkViolation
  split
  · exact .refl _ _
  · exact .ite (.step (touches_toldViolation _ _ _) (.of (touches_raise s _ _ _))) (.refl _ _)

theorem touches_sendStep (x : StepRec) : Touches [.outboxes, .deliveries] s (s.sendStep x) := touches_send s _ _ _ _ _

theorem touches_becomeHead (x : Nat) : Touches [.steps, .outboxes, .deliveries] s (s.becomeHead x) := by
  unfold State.becomeHead
  split
  · exact .refl _ _
  · exact .step (touches_sendStep _ _) (.of (touches_modStep s _ _))

theorem touches_freeStep (x : StepRec) : Touches Part.switched s (s.freeStep x) := by
  have h : Touches Part.switched s { s.modDevice x.device (fun d => { d with pendingStep := none }) with
      swr.steps := (s.modDevice x.device (fun d => { d with pendingStep := none })).swr.steps.filter
        (fun r => r.id != x.id) } :=
    .step (touches_stepList _ _) (.of (touches_modDevice_pendingStep s x.device _))
  unfold State.freeStep
  refine .ite ?_ h
  split
  · exact h
  · exact .step (touches_becomeHead _ _) h

theorem touches_abortStep (x : StepRec) (c : AbortCause) : Touches Part.switched s (s.abortStep x c) := by
  unfold State.abortStep
  refine .step (touches_freeStep _ _) (.ite (.step (touches_checkViolation _ _ _) (.step (touches_recordPosition _ _ _ _ _) ?_)) ?_)
  all_goals exact .step (touches_raise _ _ _ _) (.of (touches_withdraw s _ _))

theorem touches_stepAcknowledged (x : Nat) (c : Content) : Touches [.steps] s (s.stepAcknowledged x c) := by
  unfold State.stepAcknowledged
  split
  · exact touches_modStep s _ _
  · exact .refl _ _

theorem touches_stepUndelivered (x : Nat) : Touches Part.switched s (s.stepUndelivered x) := by
  unfold State.stepUndelivered
  split
  · exact .refl _ _
  · exact touches_abortStep s _ _

theorem touches_ignoreStepItem (a x k : Nat) (c : List Byte) (m : Nat) :
    Touches [.queue] s (s.ignoreStepItem a x k c m) := touches_raise s _ _ _

theorem touches_mismatch (x : StepRec) (d : Nat) (o : Operation) : Touches Part.switched s (s.mismatch x d o) := by
  unfold State.mismatch
  exact .ite (.step (touches_sendStep _ _) (.step (touches_modStep _ _ _) (.of (touches_raise s _ _ _))))
    (.step (touches_abortStep _ _ _) (.of (touches_raise s _ _ _)))

theorem touches_compareReadback (x : StepRec) (d : Nat) (o : Operation) :
    Touches Part.switched s (s.compareReadback x d o) := by
  unfold State.compareReadback
  exact .ite (.step (touches_raise _ _ _ _) (.step (touches_modStep _ _ _) (.of (touches_modStep s _ _))))
    (.step (touches_mismatch _ _ _ _) (.of (touches_modStep s _ _)))

theorem touches_readback (a x d : Nat) (o : Operation) : Touches Part.switched s (s.readback a x d o) := by
  unfold State.readback
  dsimp only
  split
  · exact .of (touches_ignoreStepItem s _ _ _ _ _)
  · exact .ite (.of (touches_ignoreStepItem s _ _ _ _ _))
      (.ite (.ite (touches_compareReadback s _ _ _) (.refl _ _)) (.of (touches_ignoreStepItem s _ _ _ _ _)))

theorem touches_takeDone (x : StepRec) (p : Position) (t : Millis) : Touches Part.switched s (s.takeDone x p t) :=
  .step (touches_freeStep _ _) (.step (touches_checkViolation _ _ _) (.step (touches_raise _ _ _ _)
    (.step (touches_recordPosition _ _ _ _ _) (.of (touches_withdraw s _ _)))))

theorem touches_stepDone (a x : Nat) (p : Position) (t : Millis) : Touches Part.switched s (s.stepDone a x p t) := by
  unfold State.stepDone
  dsimp only
  split
  · exact .of (touches_ignoreStepItem s _ _ _ _ _)
  · exact .ite (.of (touches_ignoreStepItem s _ _ _ _ _))
      (.ite (touches_takeDone s _ _ _) (.of (touches_ignoreStepItem s _ _ _ _ _)))

theorem touches_askAgain (x : StepRec) : Touches [.steps, .outboxes, .deliveries] s (s.askAgain x) := by
  unfold State.askAgain
  exact .ite (.step (touches_sendStep _ _) (.of (touches_modStep s _ _))) (.refl _ _)

theorem touches_stepsSignOff (a : Nat) : Touches [.steps, .outboxes, .deliveries] s (s.stepsSignOff a) :=
  .foldl (fun s (x : StepRec) => touches_askAgain s x) _ s

end

end Sys2Proof.Machine
end

