-- ==== Sys2Proof/Laws/FootprintsRadio.lean ====
section
/-! SUPPORT. What each shared operation of the unit table, the matching, the polling cycle, the receiver and the link
port may write. -/

set_option Elab.async false

namespace Sys2Proof.Machine

section

variable (s : State)

/-! ## Contact (R26 to R36) -/

theorem touches_contactEvent (u : UnitRec) (c : Nat) : Touches [.queue] s (s.contactEvent u c) := by
  unfold State.contactEvent
  exact .ite (touches_raise s _ _ _) (.ite (touches_raise s _ _ _) (.refl _ _))

theorem touches_trackClass (u : UnitRec) (c : Nat) : Touches (.contact :: Part.crewed) s (s.trackClass u c) := by
  unfold State.trackClass
  exact .ite (.refl _ _) (.step (touches_recomputeEstimate _) (.step (touches_raise _ _ _ _)
    (.of (touches_modUnit_contact s _ _))))

theorem touches_heardFrame (a c : Nat) (t : Millis) : Touches (.contact :: Part.crewed) s (s.heardFrame a c t) := by
  unfold State.heardFrame
  split
  · exact .refl _ _
  · refine .ite (.step (touches_trackClass _ _ _) (.ite (.step (touches_recomputeEstimate _) ?_) ?_)) ?_
    · exact .step (touches_contactEvent _ _ _) (.of (touches_modUnit_contact s _ _))
    · exact .step (touches_contactEvent _ _ _) (.of (touches_modUnit_contact s _ _))
    · exact .of (touches_modUnit_contact s _ _)

theorem touches_loseUnit (u : UnitRec) : Touches (.contact :: Part.crewed) s (s.loseUnit u) :=
  .step (touches_recomputeEstimate _) (.step (touches_raise _ _ _ _) (.of (touches_modUnit_contact s _ _)))

theorem touches_silentWindow (a : Nat) : Touches (.contact :: Part.crewed) s (s.silentWindow a) := by
  unfold State.silentWindow
  split
  · exact .refl _ _
  · split
    · exact .ite (touches_loseUnit s _) (.step (touches_raise _ _ _ _) (.of (touches_modUnit_contact s _ _)))
    · exact .ite (touches_loseUnit s _) (.of (touches_modUnit_contact s _ _))
    · exact .ite (touches_loseUnit s _) (.of (touches_modUnit_contact s _ _))
    · exact .refl _ _
    · exact .refl _ _

theorem touches_dropClosing (a : Nat) : Touches [.closing] s (s.dropClosing a) := touches_closing s _

/-- What a unit's leaving writes: its contact, its windows, its steps, its outbox and its workers. -/
theorem touches_signOff (a : Nat) : Touches ([.contact, .cycle, .steps] ++ Part.crewed) s (s.signOff a) := by
  have h1 : Touches ([.contact, .cycle, .steps] ++ Part.crewed) s (((s.modUnit a (fun u =>
      { u with contact := .signedOff, budget := 0, lastKey := 0 })).modPsc (Psc.voidUnit a)).recomputeEstimate) :=
    .step (touches_recomputeEstimate _) (.step (touches_modPsc_cycle _ _ ⟨rfl, rfl, rfl, rfl, rfl⟩)
      (.of (touches_modUnit_contact s _ _)))
  refine .step (touches_dropClosing _ _) (.step (touches_stepsSignOff _ _)
    (.step (touches_modUnit_outboxes _ _ _) (.step (qs := Part.crewed) (.foldl ?_ _ _) h1)))
  exact fun s i => touches_enterInactive s i

theorem touches_raiseKey (a : Nat) (k : StatusKey) (e : Bool) : Touches [.queue] s (s.raiseKey a k e) := by
  unfold State.raiseKey
  exact .ite (touches_raise s _ _ _) (.refl _ _)

theorem touches_keySignOff (a : Nat) (k : StatusKey) :
    Touches ([.contact, .cycle, .steps] ++ Part.crewed) s (s.keySignOff a k) := by
  unfold State.keySignOff
  split
  · exact .step (touches_raiseKey _ _ _ _) (.of (touches_raise s _ _ _))
  · exact .step (touches_raiseKey _ _ _ _) (.step (touches_raise _ _ _ _) (touches_signOff s a))

theorem touches_keyAction (u : UnitRec) (k : StatusKey) :
    Touches ([.contact, .cycle, .steps] ++ Part.crewed) s (s.keyAction u k) := by
  unfold State.keyAction
  split
  · exact .of (touches_raiseKey s _ _ _)
  · exact .of (touches_raiseKey s _ _ _)
  · exact .step (touches_raiseKey _ _ _ _) (.of (touches_modUnit_contact s _ _))
  · exact .step (touches_raiseKey _ _ _ _) (.of (touches_modUnit_contact s _ _))
  · exact touches_keySignOff s _ _

theorem touches_statusKey (a c : Nat) (t : Millis) :
    Touches ([.contact, .cycle, .steps] ++ Part.crewed) s (s.statusKey a c t) := by
  unfold State.statusKey
  split
  · exact .refl _ _
  · have h1 : Touches ([.contact, .cycle, .steps] ++ Part.crewed) s
        (s.modUnit a (fun r => { r with lastKey := c })) := .of (touches_modUnit_contact s _ _)
    dsimp only
    refine .ite h1 ?_
    split
    · exact .ite h1 (.step (touches_raise _ _ _ _) h1)
    · exact .ite (.ite (.step (touches_crewCheckIn _ _ _) h1)
        (.step (touches_raiseKey _ _ _ _) (.step (touches_crewCheckIn _ _ _) h1)))
        (.ite h1 (.step (touches_keyAction _ _ _) h1))

/-! ## Matching (R56, R57) -/

theorem touches_tellAcknowledged (a : Nat) (e : Entry) : Touches Part.switched s (s.tellAcknowledged a e) := by
  unfold State.tellAcknowledged
  split
  · exact .of (touches_segmentAcknowledged s _ _)
  · exact .of (touches_noticeAcknowledged s _ _)
  · exact .of (touches_stepAcknowledged s _ _)
  · exact .of (touches_permitAcknowledged s _ _)
  · exact .refl _ _

theorem touches_tellUndelivered (a : Nat) (e : Entry) : Touches Part.switched s (s.tellUndelivered a e) := by
  unfold State.tellUndelivered
  split
  · exact .of (touches_endOrder s _ _ _)
  · exact .of (touches_noticeUndelivered s _ _)
  · exact touches_stepUndelivered s _
  · exact .of (touches_permitUndelivered s _ _ _ _)
  · exact .refl _ _

theorem touches_stopUndelivered (h : Nat) (n : OrderNotice) : Touches [.queue] s (s.stopUndelivered h n) := by
  unfold State.stopUndelivered
  split
  · exact .refl _ _
  · exact touches_raise s _ _ _

theorem touches_promptUnacknowledged (i : Nat) (p : Prompt) : Touches [.queue] s (s.promptUnacknowledged i p) := by
  unfold State.promptUnacknowledged
  split
  · exact .refl _ _
  · exact touches_raise s _ _ _

theorem touches_tellUnacknowledged (a : Nat) (e : Entry) : Touches [.queue] s (s.tellUnacknowledged a e) := by
  unfold State.tellUnacknowledged
  split
  · exact touches_stopUndelivered s _ _
  · exact touches_promptUnacknowledged s _ _
  · exact touches_permitUnacknowledged s _ _ _ _
  · exact .refl _ _

theorem touches_releaseEntry (a n : Nat) : Touches Part.air s (s.releaseEntry a n) :=
  .step (touches_admit _ _) (.of (touches_modUnit_outboxes s _ _))

theorem touches_readyEntry (a n r : Nat) : Touches [.outboxes] s (s.readyEntry a n r) := touches_modUnit_outboxes s _ _

theorem touches_resolveEntry (a : Nat) (is : List Item) (n : Nat) :
    Touches Part.switched s (s.resolveEntry a is n) := by
  unfold State.resolveEntry
  split
  · exact .refl _ _
  · exact .ite (.step (touches_tellAcknowledged _ _ _) (.of (touches_releaseEntry s _ _)))
      (.ite (.of (touches_readyEntry s _ _ _))
        (.ite (.step (touches_tellUndelivered _ _ _) (.of (touches_releaseEntry s _ _)))
          (.step (touches_readyEntry _ _ _ _) (.of (touches_tellUnacknowledged s _ _)))))

theorem touches_resolve (a : Nat) (is : List Item) : Touches Part.switched s (s.resolve a is) :=
  .foldl (fun s n => touches_resolveEntry s a is n) _ s

theorem touches_takeReply (a : Nat) (is : List Item) (t : Millis) :
    Touches (.cycle :: Part.switched) s (s.takeReply a is t) := by
  unfold State.takeReply
  refine .ite (.step (touches_resolve _ _ _) (.step (touches_modPsc_cycle _ _ ⟨rfl, rfl, rfl, rfl, rfl⟩) ?_)) ?_
  all_goals exact .of (touches_modPsc_cycle s _ ⟨rfl, rfl, rfl, rfl, rfl⟩)

/-! ## The cycle (R39 to R44, R51 to R53) -/

theorem touches_startFrame (f : TxFrame) : Touches [.transmitter, .receiver] s (s.startFrame f) :=
  touches_modAle s _ ⟨rfl, rfl, rfl, rfl⟩

theorem touches_giveFrame (c : Candidate) : Touches Part.cycled s (s.giveFrame c) := by
  unfold State.giveFrame
  split
  · exact .step (touches_startFrame _ _) (.step (touches_modAlarm_calls _ _ _) (.of (touches_broadcast s _)))
  · exact .step (touches_startFrame _ _) (.of (touches_modUnit_outboxes s _ _))

theorem touches_beginWindow (u : UnitRec) (p : Bool) : Touches Part.cycled s (s.beginWindow u p) :=
  .step (touches_startFrame _ _) (.of (touches_modPsc_cycle s _ ⟨rfl, rfl, rfl, rfl, rfl⟩))

theorem touches_passOver : Touches [.cycle] s s.passOver := touches_modPsc_cycle s _ ⟨rfl, rfl, rfl, rfl, rfl⟩

theorem touches_enterOpen : Touches [.cycle] s s.enterOpen := touches_modPsc_cycle s _ ⟨rfl, rfl, rfl, rfl, rfl⟩

theorem touches_probeUnit (u : UnitRec) : Touches Part.cycled s (s.probeUnit u) := by
  unfold State.probeUnit
  exact .ite (.step (touches_enterOpen _) (.of (touches_passOver s))) (touches_beginWindow s _ _)

theorem touches_enterProbe : Touches Part.cycled s s.enterProbe := by
  have h : ∀ (f : Psc → Psc), _ → Touches [.cycle] s (s.modPsc f) := fun f hf => touches_modPsc_cycle s f hf
  unfold State.enterProbe
  dsimp only
  split
  · exact .step (touches_enterOpen _) (.of (h _ ⟨rfl, rfl, rfl, rfl, rfl⟩))
  · split
    · exact .step (touches_enterOpen _) (.step (touches_modPsc_cycle _ _ ⟨rfl, rfl, rfl, rfl, rfl⟩)
        (.of (h _ ⟨rfl, rfl, rfl, rfl, rfl⟩)))
    · exact .step (touches_probeUnit _ _) (.step (touches_modPsc_cycle _ _ ⟨rfl, rfl, rfl, rfl, rfl⟩)
        (.of (h _ ⟨rfl, rfl, rfl, rfl, rfl⟩)))

theorem touches_pollEntries (es : List PollEntry) : Touches Part.cycled s (s.pollEntries es) := by
  induction es generalizing s with
  | nil => exact touches_enterProbe s
  | cons e es ih =>
    have h1 : Touches Part.cycled s (s.modPsc (fun p => { p with pollNext := p.pollNext + 1 })) :=
      .of (touches_modPsc_cycle s _ ⟨rfl, rfl, rfl, rfl, rfl⟩)
    unfold State.pollEntries
    dsimp only
    split
    · exact h1.trans (ih _)
    · exact .ite ((Touches.step (touches_passOver _) h1).trans (ih _)) (.step (touches_beginWindow _ _ _) h1)

theorem touches_pollOn : Touches Part.cycled s s.pollOn := touches_pollEntries s _

theorem touches_enterPoll : Touches Part.cycled s s.enterPoll :=
  .step (touches_pollOn _) (.of (touches_modPsc_cycle s _ ⟨rfl, rfl, rfl, rfl, rfl⟩))

theorem touches_pickTraffic : Touches Part.cycled s s.pickTraffic := by
  unfold State.pickTraffic
  split
  · exact touches_enterPoll s
  · exact .ite (.step (touches_giveFrame _ _) (.of (touches_modPsc_cycle s _ ⟨rfl, rfl, rfl, rfl, rfl⟩)))
      (touches_enterPoll s)

theorem touches_countCycle : Touches [.cycle, .draws] s s.countCycle := by
  intro p hp
  have hr := s.same_refl p
  unfold State.countCycle
  split <;> cases p <;> first | exact hr | exact absurd (by decide) hp

theorem touches_fixCycle : Touches [.cycle] s s.fixCycle := touches_modPsc_cycle s _ ⟨rfl, rfl, rfl, rfl, rfl⟩

theorem touches_beginCycle : Touches (.draws :: Part.cycled) s s.beginCycle :=
  .step (touches_pickTraffic _) (.step (touches_fixCycle _) (.of (touches_countCycle s)))

theorem touches_readyAll : Touches [.outboxes] s s.readyAll := by
  intro p hp
  have hr := s.same_refl p
  cases p <;> first
    | exact hr
    | exact absurd (by decide) hp
    | exact List.map_map ..

theorem touches_openWindowEnd : Touches (.draws :: Part.cycled) s s.openWindowEnd :=
  .step (touches_beginCycle _) (.of (touches_readyAll s))

theorem touches_windowEnd (w : Window) : Touches ([.contact] ++ Part.cycled ++ Part.settled) s (s.windowEnd w) := by
  have h1 : Touches ([.contact] ++ Part.cycled ++ Part.settled) s (s.modPsc (fun p => { p with window := none })) :=
    .of (touches_modPsc_cycle s _ ⟨rfl, rfl, rfl, rfl, rfl⟩)
  unfold State.windowEnd
  refine .ite (.step (touches_enterOpen _) (.ite ?_ h1)) (.step (touches_pollOn _) (.ite ?_ h1))
  all_goals exact .step (touches_silentWindow _ _) h1

theorem touches_entrySent (a : Nat) : Touches [.outboxes] s (s.entrySent a) := touches_modUnit_outboxes s _ _

theorem touches_callSent (a : Nat) : Touches [.calls] s (s.callSent a) := touches_modAlarm_calls s _ _

theorem touches_callDone : Touches [.broadcast, .calls] s s.callDone := by
  unfold State.callDone
  split
  · exact .refl _ _
  · exact .step (touches_admitCalls _) (.step (touches_callSent _ _) (.of (touches_broadcast s _)))

theorem touches_frameSent (f : TxFrame) : Touches Part.cycled s (s.frameSent f) := by
  have h1 : Touches Part.cycled s (s.modAle Ale.release) := .of (touches_modAle s _ ⟨rfl, rfl, rfl, rfl⟩)
  unfold State.frameSent
  dsimp only
  split
  · exact h1
  · exact .step (touches_pickTraffic _) (.step (touches_entrySent _ _) h1)
  · exact .ite (.step (touches_startFrame _ _) h1) (.step (touches_pickTraffic _) (.step (touches_callDone _) h1))

/-! ## The hand-off of a valid frame (R18, R20) -/

theorem touches_takeItem (a : Nat) (t : Millis) (i : Item) : Touches Part.switched s (s.takeItem a t i) := by
  unfold State.takeItem
  split
  · exact .refl _ _
  · exact .refl _ _
  · exact .of (touches_crewReport s _ _ _)
  · exact touches_readback s _ _ _ _
  · exact touches_stepDone s _ _ _ _
  · exact .of (touches_permitAccept s _ _ _ _)
  · exact .of (touches_permitSurrender s _ _)

theorem touches_handContents (a : Nat) (f : UnitFrame) (t : Millis) :
    Touches Part.heard s (s.handContents a f t) := by
  unfold State.handContents
  split
  · exact .of (touches_report s _ _ _ _ _)
  · refine .ite (.step (qs := Part.switched) (.foldl (fun s i => touches_takeItem s a t i) _ _)
      (.step (qs := Part.alarmed) (.foldl (fun s (r : Report) => touches_report s a r.slot r.condition false t) _ _) ?_))
      ?_
    all_goals exact .step (touches_statusKey _ _ _ _) (.of (touches_takeReply s _ _ _))

theorem touches_handOff (a c : Nat) (f : UnitFrame) : Touches Part.heard s (s.handOff a c f) := by
  have h : Touches Part.heard s (if s.regainedBy a f then (s.heardFrame a c s.now).modPsc (Psc.voidEntries a)
      else s.heardFrame a c s.now) :=
    .ite (.step (touches_modPsc_cycle _ _ ⟨rfl, rfl, rfl, rfl, rfl⟩) (.of (touches_heardFrame s _ _ _)))
      (.of (touches_heardFrame s _ _ _))
  unfold State.handOff
  exact .ite (.step (touches_handContents _ _ _ _) h) h

theorem touches_modCounters (f : Counters → Counters) : Touches [.receiver, .counters] s (s.modCounters f) :=
  touches_modAle_receiver s _ ⟨rfl, rfl, rfl, rfl, rfl, rfl⟩

theorem touches_checkRoster (a c : Nat) (fl : Fleet) (f : UnitFrame) : Touches Part.heard s (s.checkRoster a c fl f) := by
  unfold State.checkRoster
  split
  · exact .step (touches_raise _ _ _ _) (.of (touches_modCounters s _))
  · exact .ite (.step (touches_raise _ _ _ _) (.of (touches_modCounters s _))) (touches_handOff s _ _ _)

theorem touches_checkFrame (p : AirParts) (c : Nat) (fl : Fleet) : Touches Part.heard s (s.checkFrame p c fl) := by
  unfold State.checkFrame
  refine .ite (.of (touches_modCounters s _)) (.ite (.refl _ _) ?_)
  split
  · exact .of (touches_modCounters s _)
  · exact .of (touches_modCounters s _)
  · exact touches_checkRoster s _ _ _ _

theorem touches_frameComplete (bs : List Byte) : Touches Part.heard s (s.frameComplete bs) := by
  unfold State.frameComplete
  split
  · exact .ite (.step (touches_settle _) (.step (touches_checkFrame _ _ _ _)
      (.of (touches_modAle_receiver s _ ⟨rfl, rfl, rfl, rfl, rfl, rfl⟩)))) (.refl _ _)
  · exact .refl _ _

end

end Sys2Proof.Machine
end

