-- ==== Sys2Proof/Laws/Line.lean ====
section
/-! SUPPORT. The line and the end of an event: what an idle line does with an arrived request, when the line does
nothing, and when the double-poll set is settled. -/

namespace Sys2Proof.Machine

/-- The state in which an idle line hands an arrived request to its owner. -/
def State.heardOut (s : State) : State := s.modClp (fun c => { c with inFrame := false, order := [] })

/-- An idle line takes an arrived request at once (R163). -/
theorem arrive_of_lineIdle (s : State) (h : s.lineIdle) (kind tag : Byte) (r : Request) :
    s.arrive kind tag r = s.heardOut.takeRequest kind tag r := by
  obtain ⟨_, hs, ho⟩ := h
  have hp : Clp.placeRequest kind tag r { s.clp with inFrame := false }
      = { s.clp with inFrame := false, order := [.request kind tag r] } := by
    unfold Clp.placeRequest
    rw [if_pos (by simp [Clp.requests, ho, Config.maxRequests])]
    simp [ho]
  have hq : s.modClp (fun c => Clp.placeRequest kind tag r { c with inFrame := false })
      = { s with clp := { s.clp with inFrame := false, order := [.request kind tag r] } } :=
    congrArg (fun c => { s with clp := c }) hp
  unfold State.arrive
  rw [hq]
  unfold State.serve
  rw [if_neg (by simp [hs])]
  rfl

/-- While a reply is being sent, nothing of the reply order is served (R163). -/
theorem serve_of_sending (s : State) (h : s.clp.sending.isSome = true) : s.serve = s := by
  unfold State.serve
  rw [if_pos h]

/-- With an empty reply order there is nothing to serve (R163). -/
theorem serve_of_empty (s : State) (h : s.clp.order = []) : s.serve = s := by
  unfold State.serve
  split
  · rfl
  · rw [h]

/-- No unit's membership has changed exactly when the set is as R117 wants it. -/
theorem changedUnit?_eq_none (s : State) : s.changedUnit? = none ↔ s.doublePollOk := by
  unfold State.changedUnit? State.doublePollOk
  rw [List.find?_eq_none]
  simp only [List.mem_append]
  refine forall₂_congr fun a _ => ?_
  cases hw : s.wantsDouble a <;> by_cases hm : a ∈ s.psc.doublePoll <;> simp [hm]

/-- A settled state is left as it is (R117). -/
theorem settle_of_doublePollOk (s : State) (h : s.doublePollOk) : s.settle = s := by
  unfold State.settle
  cases 2 * (s.units.length + s.psc.doublePoll.length) with
  | zero => rfl
  | succ n =>
    unfold State.settleTimes
    rw [(changedUnit?_eq_none s).2 h]

/-- A request that is refused changes nothing but the line (R164). -/
theorem refuse_state (o : ReplyOutcome) (b : List Byte) (s : State) : (s.refuse o b).1 = s := rfl

@[simp] theorem accept_state (b : List Byte) (s : State) : (s.accept b).1 = s := rfl

end Sys2Proof.Machine
end

