-- ==== Sys2Proof/Laws/Numbers.lean ====
section
/-! SUPPORT. The numbers the part gives out, and the bytes of numbers: the next id and the next serial are free, and a
number's bytes give it back. -/

namespace Sys2Proof.Machine

theorem nextId_range (top : Nat) (used : List Nat) (fuel n : Nat) (h : 1 ≤ top) (hn : n ≤ top) :
    1 ≤ nextId top used fuel n ∧ nextId top used fuel n ≤ top := by
  induction fuel generalizing n with
  | zero => unfold nextId; split <;> omega
  | succ k ih =>
    unfold nextId
    dsimp only
    have hm : (if n < top then n + 1 else 1) ≤ top ∧ 1 ≤ (if n < top then n + 1 else 1) := by split <;> omega
    by_cases hu : (if n < top then n + 1 else 1) ∈ used
    · rw [if_pos hu]; exact ih _ hm.1
    · rw [if_neg hu]; exact ⟨hm.2, hm.1⟩

/-- The number the search stands at after k more moves, from 1 to top and round. -/
def stepped (top n k : Nat) : Nat := (n + k - 1) % top + 1

theorem stepped_inj {top n j k : Nat} (hj : j < top) (hk : k < top) (hn : 1 ≤ n)
    (h : stepped top n j = stepped top n k) : j = k := by
  unfold stepped at h
  have e : (n - 1 + j) % top = (n - 1 + k) % top := by
    have h1 : n + j - 1 = n - 1 + j := by omega
    have h2 : n + k - 1 = n - 1 + k := by omega
    rw [h1, h2] at h; omega
  have := (Nat.ModEq.add_left_cancel' (n - 1) (e : (n - 1 + j) ≡ (n - 1 + k) [MOD top]))
  exact Nat.ModEq.eq_of_lt_of_lt this hj hk

theorem stepped_next {top n : Nat} (ht : n ≤ top) : (if n < top then n + 1 else 1) = stepped top n 1 := by
  unfold stepped
  split
  · rw [Nat.add_sub_cancel, Nat.mod_eq_of_lt (by omega)]
  · have : n = top := by omega
    subst this; simp

theorem stepped_stepped {top n j k : Nat} : stepped top (stepped top n j) k = stepped top n (j + k) ∨ n + j = 0 := by
  unfold stepped
  by_cases h : n + j = 0
  · exact Or.inr h
  · left
    have e1 : (n + j - 1) % top + 1 + k - 1 = (n + j - 1) % top + k := by omega
    have e2 : n + (j + k) - 1 = (n + j - 1) + k := by omega
    rw [e1, e2, Nat.mod_add_mod]

/-- With fuel enough, a search that answers a used number has found every number it passed used. -/
theorem nextId_used (top : Nat) (used : List Nat) (fuel n : Nat) (hn : 1 ≤ n) (ht : n ≤ top)
    (h : nextId top used fuel n ∈ used) : ∀ k, 1 ≤ k → k ≤ fuel + 1 → stepped top n k ∈ used := by
  induction fuel generalizing n with
  | zero =>
    intro k h1 h2
    have : k = 1 := by omega
    subst this
    rw [← stepped_next ht]
    simpa [nextId] using h
  | succ m ih =>
    unfold nextId at h
    dsimp only at h
    rw [stepped_next ht] at h
    split at h
    case isTrue hu =>
      intro k h1 h2
      have hs : 1 ≤ stepped top n 1 ∧ stepped top n 1 ≤ top := by
        have := Nat.mod_lt (n + 1 - 1) (show 0 < top by omega)
        unfold stepped; omega
      by_cases hk : k = 1
      · exact hk ▸ hu
      · have := ih _ hs.1 hs.2 h (k - 1) (by omega) (by omega)
        rcases stepped_stepped (top := top) (n := n) (j := 1) (k := k - 1) with e | e
        · rw [e] at this
          have e' : 1 + (k - 1) = k := by omega
          rwa [e'] at this
        · omega
    case isFalse hu => exact absurd h hu

/-- The next number is free while fewer numbers than the range holds are used. -/
theorem nextId_free (top : Nat) (used : List Nat) (n : Nat) (hn : 1 ≤ n) (ht : n ≤ top) (hl : used.length < top) :
    nextId top used (used.length + 1) n ∉ used := by
  intro h
  have all := nextId_used top used (used.length + 1) n hn ht h
  have sub : ((List.range (used.length + 1)).map (fun j => stepped top n (j + 1))) ⊆ used := by
    intro x hx
    obtain ⟨j, hj, rfl⟩ := List.mem_map.1 hx
    exact all (j + 1) (by omega) (by have := List.mem_range.1 hj; omega)
  have nd : ((List.range (used.length + 1)).map (fun j => stepped top n (j + 1))).Nodup := by
    refine List.Nodup.map_on ?_ List.nodup_range
    intro a ha b hb e
    have ha := List.mem_range.1 ha
    have hb := List.mem_range.1 hb
    have e' : stepped top (n + 1) a = stepped top (n + 1) b := by
      unfold stepped at e ⊢
      have h1 : n + 1 + a - 1 = n + (a + 1) - 1 := by omega
      have h2 : n + 1 + b - 1 = n + (b + 1) - 1 := by omega
      rw [h1, h2]; exact e
    exact stepped_inj (by omega) (by omega) (by omega) e'
  have := (List.Nodup.subperm nd sub).length_le
  simp at this

theorem serialAfter_lt (held : List Nat) (fuel n : Nat) : serialAfter held fuel n < 256 := by
  induction fuel generalizing n with
  | zero => unfold serialAfter; omega
  | succ k ih =>
    unfold serialAfter
    split
    · exact ih _
    · omega

theorem serialAfter_used (held : List Nat) (fuel n : Nat) (h : serialAfter held fuel n ∈ held) :
    ∀ k, 1 ≤ k → k ≤ fuel + 1 → (n + k) % 256 ∈ held := by
  induction fuel generalizing n with
  | zero =>
    intro k h1 h2
    have : k = 1 := by omega
    subst this
    simpa [serialAfter] using h
  | succ m ih =>
    unfold serialAfter at h
    split at h
    case isTrue hu =>
      intro k h1 h2
      by_cases hk : k = 1
      · exact hk ▸ hu
      · have := ih _ h (k - 1) (by omega) (by omega)
        rw [Nat.mod_add_mod] at this
        have e : n + 1 + (k - 1) = n + k := by omega
        rwa [e] at this
    case isFalse hu => exact absurd h hu

/-- The next serial is held by no entry while fewer than 256 are held (R49). -/
theorem serialAfter_free (held : List Nat) (n : Nat) (hl : held.length < 256) :
    serialAfter held (held.length + 1) n ∉ held := by
  intro h
  have all := serialAfter_used held (held.length + 1) n h
  have sub : ((List.range (held.length + 1)).map (fun j => (n + (j + 1)) % 256)) ⊆ held := by
    intro x hx
    obtain ⟨j, hj, rfl⟩ := List.mem_map.1 hx
    exact all (j + 1) (by omega) (by have := List.mem_range.1 hj; omega)
  have nd : ((List.range (held.length + 1)).map (fun j => (n + (j + 1)) % 256)).Nodup := by
    refine List.Nodup.map_on ?_ List.nodup_range
    intro a ha b hb e
    have ha := List.mem_range.1 ha
    have hb := List.mem_range.1 hb
    omega
  have := (List.Nodup.subperm nd sub).length_le
  simp at this

@[simp] theorem length_beBytes (k n : Nat) : (beBytes k n).length = k := by
  induction k with
  | zero => rfl
  | succ k ih => simp [beBytes, ih]

theorem foldl_beNat (bs : List Byte) (n : Nat) :
    bs.foldl (fun n b => n * 256 + b.toNat) n = n * 256 ^ bs.length + beNat bs := by
  induction bs generalizing n with
  | nil => simp [beNat]
  | cons b bs ih =>
    unfold beNat
    simp only [List.foldl_cons, List.length_cons]
    rw [ih, ih (0 * 256 + b.toNat)]
    ring

theorem beNat_cons (b : Byte) (bs : List Byte) : beNat (b :: bs) = b.toNat * 256 ^ bs.length + beNat bs := by
  have := foldl_beNat bs (0 * 256 + b.toNat)
  unfold beNat at *
  simpa using this

/-- The bytes of a number give back what its width holds of it. -/
theorem beNat_beBytes (k n : Nat) : beNat (beBytes k n) = n % 256 ^ k := by
  induction k with
  | zero => simp [beBytes, beNat, Nat.mod_one]
  | succ k ih =>
    rw [beBytes, beNat_cons, ih, length_beBytes, BitVec.toNat_ofNat]
    have h := Nat.mod_mul (x := n) (a := 256 ^ k) (b := 256)
    have e : 2 ^ 8 = 256 := rfl
    rw [e, pow_succ 256 k, h, Nat.mul_comm, Nat.add_comm]

/-- A number that fits its width comes back from its bytes. -/
theorem beNat_beBytes_of_fits {k n : Nat} (h : fits k n = true) : beNat (beBytes k n) = n := by
  rw [beNat_beBytes, Nat.mod_eq_of_lt (of_decide_eq_true h)]

/-- A field is taken back from the front of a body. -/
theorem takeNum_beBytes {k n : Nat} (h : fits k n = true) (rest : List Byte) :
    takeNum k (beBytes k n ++ rest) = some (n, rest) := by
  unfold takeNum
  rw [if_pos (by simp), List.take_left' (by simp), List.drop_left' (by simp), beNat_beBytes_of_fits h]

/-- A text is taken back from the front of a body. -/
theorem takeText_textBytes {t : List Byte} (h : countFits t = true) (rest : List Byte) :
    takeText (textBytes t ++ rest) = some (t, rest) := by
  have h : t.length < 256 := of_decide_eq_true h
  have e : textBytes t ++ rest = BitVec.ofNat 8 t.length :: (t ++ rest) := by simp [textBytes, u8, beBytes]
  have n : (BitVec.ofNat 8 t.length).toNat = t.length := by rw [BitVec.toNat_ofNat]; exact Nat.mod_eq_of_lt h
  rw [e]
  unfold takeText
  simp only [n]
  rw [if_pos (by simp), List.take_left' rfl, List.drop_left' rfl]

/-- Entries are taken back one by one. -/
theorem takeEntries_flatMap {α : Type} (take : List Byte → Option (α × List Byte)) (f : α → List Byte) (xs : List α)
    (h : ∀ x ∈ xs, ∀ rest, take (f x ++ rest) = some (x, rest)) (rest : List Byte) :
    takeEntries take xs.length (xs.flatMap f ++ rest) = some (xs, rest) := by
  induction xs with
  | nil => rfl
  | cons x xs ih =>
    have hx := h x (List.mem_cons_self ..) (xs.flatMap f ++ rest)
    have ht := ih (fun y hy => h y (List.mem_cons_of_mem _ hy))
    simp only [List.length_cons, List.flatMap_cons, List.append_assoc, takeEntries]
    rw [hx]
    simp only [ht]

/-- A list is taken back from the front of a body. -/
theorem takeList_listBytes {α : Type} (take : List Byte → Option (α × List Byte)) (f : α → List Byte) (xs : List α)
    (hc : countFits xs = true) (h : ∀ x ∈ xs, ∀ rest, take (f x ++ rest) = some (x, rest)) (rest : List Byte) :
    takeList take (listBytes f xs ++ rest) = some (xs, rest) := by
  have hc : xs.length < 256 := of_decide_eq_true hc
  have e : listBytes f xs ++ rest = BitVec.ofNat 8 xs.length :: (xs.flatMap f ++ rest) := by
    simp [listBytes, u8, beBytes]
  have n : (BitVec.ofNat 8 xs.length).toNat = xs.length := by rw [BitVec.toNat_ofNat]; exact Nat.mod_eq_of_lt hc
  rw [e]
  unfold takeList
  simp only [n]
  exact takeEntries_flatMap take f xs h rest

end Sys2Proof.Machine
end

