-- ==== Sys2Proof/Laws/Sampling.lean ====
section
/-! SUPPORT. What one sample can do (R14 to R17): the receiver's own registers change, and at most one row of the
receiver is carried out. -/

namespace Sys2Proof.Machine

/-- The rows a sample can raise. -/
def rowOfReceiver : Instr → Prop
  | .burstStart | .noiseRun _ | .carrierWaitCleared | .runClassified _ | .beyondTable _ | .syncMatched _ | .noSync _
  | .truncated _ | .burstBadLength _ | .frameComplete _ => True
  | _ => False

theorem rowOfReceiver_carries {i : Instr} (h : rowOfReceiver i) : i.carries = false ∧ i.request? = none := by
  cases i <;> simp_all [rowOfReceiver, Instr.carries, Instr.request?]

theorem huntRow_row {x : Sample} {a : Ale} {i : Instr} (h : a.huntRow x = some i) : rowOfReceiver i := by
  unfold Ale.huntRow at h
  split at h <;> split at h <;> simp_all <;> subst h <;> trivial

theorem runRow_row (run : Nat) (x : Sample) (a : Ale) : rowOfReceiver (a.runRow run x) := by
  unfold Ale.runRow
  split <;> [skip; (split <;> [skip; split])] <;> trivial

theorem syncRow_row {bits : List Bool} {a : Ale} {i : Instr} (h : a.syncRow bits = some i) : rowOfReceiver i := by
  unfold Ale.syncRow at h
  split at h
  · cases h; trivial
  · split at h
    · cases h; trivial
    · cases h

theorem bodyRow_row {bits : List Bool} {i : Instr} (h : bodyRow bits = some i) : rowOfReceiver i := by
  unfold bodyRow at h
  split at h
  · split at h
    · cases h; trivial
    · split at h
      · cases h; trivial
      · cases h
  · cases h

theorem bitSample_row {c : Nat} {row : List Bool → Option Instr} {x : Sample} {a : Ale} {i : Instr}
    (hr : ∀ bits j, row bits = some j → rowOfReceiver j) (h : (a.bitSample c row x).2 = some i) : rowOfReceiver i := by
  unfold Ale.bitSample at h
  split at h
  · cases h; trivial
  · split at h
    · cases h
    · exact hr _ _ h

/-- A sample raises a row of the receiver or none. -/
theorem takeSample_row {x : Sample} {a : Ale} {i : Instr} (h : (a.takeSample x).2 = some i) : rowOfReceiver i := by
  unfold Ale.takeSample at h
  split at h
  · exact huntRow_row h
  · split at h
    · cases h
    · cases h; exact runRow_row _ _ _
  · exact bitSample_row (fun _ _ hj => syncRow_row hj) h
  · exact bitSample_row (fun _ _ hj => bodyRow_row hj) h

/-- Two receivers that differ in the registers of a burst alone. -/
def Ale.SameBut (a b : Ale) : Prop :=
  b = { a with rxState := b.rxState, rxBits := b.rxBits, rxWait := b.rxWait, lastSample := b.lastSample }

theorem bitSample_ale (c : Nat) (row : List Bool → Option Instr) (x : Sample) (a : Ale) :
    a.SameBut (a.bitSample c row x).1 := by
  unfold Ale.bitSample
  split
  · rfl
  · split <;> rfl

/-- What the receiver holds after a sample differs in the registers of a burst alone. -/
theorem takeSample_ale (x : Sample) (a : Ale) : a.SameBut (a.takeSample x).1 := by
  unfold Ale.takeSample
  split
  · rfl
  · split <;> rfl
  · exact bitSample_ale _ _ x { a with lastSample := x }
  · exact bitSample_ale _ _ x { a with lastSample := x }

/-- A step on an empty queue changes the samples that wait and the receiver's registers, and then carries out at most
one row of the receiver. -/
theorem step_of_no_command {s : State} (h : s.pending = []) :
    ∃ u, Touches [.samples, .receiver] s u ∧ u.pending = [] ∧ u.clp = s.clp
      ∧ (step s = .next u ∨ ∃ i, rowOfReceiver i ∧ step s = exec i u) := by
  have hs : step s = s.sampleOn := by unfold step; rw [h]
  rw [hs]
  unfold State.sampleOn
  cases hx : s.air with
  | nil => exact ⟨s, .refl _ s, h, rfl, .inl rfl⟩
  | cons x rest =>
    have touched : ∀ a' : Ale, s.ale.SameBut a' →
        Touches [.samples, .receiver] s { s with air := rest, ale := a' } := by
      intro a' ha p hp
      rw [ha]
      cases p <;> simp_all [State.same]
    simp only [State.sampleTaken]
    split
    · have hp := touched _ (takeSample_ale x s.ale)
      have hrow := @takeSample_row x s.ale
      cases ht : s.ale.takeSample x with
      | mk a' o =>
        rw [ht] at hp hrow
        cases o with
        | none => exact ⟨_, hp, h, rfl, .inl rfl⟩
        | some i => exact ⟨_, hp, h, rfl, .inr ⟨i, hrow rfl, rfl⟩⟩
    · exact ⟨_, touched s.ale rfl, h, rfl, .inl rfl⟩

end Sys2Proof.Machine
end

