-- ==== Sys2Proof/Laws/State.lean ====
section
/-! SUPPORT. What each update of the state writes and leaves, field by field, so that no proof unfolds an update. -/

namespace Sys2Proof.Machine

section

variable (a : Nat) (f : UnitRec → UnitRec) (s : State)

@[simp] theorem State.modUnit_pending : (s.modUnit a f).pending = s.pending := rfl
@[simp] theorem State.modUnit_air : (s.modUnit a f).air = s.air := rfl
@[simp] theorem State.modUnit_freeDraws : (s.modUnit a f).freeDraws = s.freeDraws := rfl
@[simp] theorem State.modUnit_resetAsserted : (s.modUnit a f).resetAsserted = s.resetAsserted := rfl
@[simp] theorem State.modUnit_runState : (s.modUnit a f).runState = s.runState := rfl
@[simp] theorem State.modUnit_clock : (s.modUnit a f).clock = s.clock := rfl
@[simp] theorem State.modUnit_ale : (s.modUnit a f).ale = s.ale := rfl
@[simp] theorem State.modUnit_psc : (s.modUnit a f).psc = s.psc := rfl
@[simp] theorem State.modUnit_units : (s.modUnit a f).units = update (fun u => u.addr == a) f s.units := rfl
@[simp] theorem State.modUnit_keys : (s.modUnit a f).keys = s.keys := rfl
@[simp] theorem State.modUnit_wos : (s.modUnit a f).wos = s.wos := rfl
@[simp] theorem State.modUnit_lwm : (s.modUnit a f).lwm = s.lwm := rfl
@[simp] theorem State.modUnit_als : (s.modUnit a f).als = s.als := rfl
@[simp] theorem State.modUnit_swr : (s.modUnit a f).swr = s.swr := rfl
@[simp] theorem State.modUnit_pmt : (s.modUnit a f).pmt = s.pmt := rfl
@[simp] theorem State.modUnit_clp : (s.modUnit a f).clp = s.clp := rfl
@[simp] theorem State.modUnit_now : (s.modUnit a f).now = s.now := rfl

end

section

variable (h : Nat) (f : OrderRec → OrderRec) (s : State)

@[simp] theorem State.modOrder_pending : (s.modOrder h f).pending = s.pending := rfl
@[simp] theorem State.modOrder_air : (s.modOrder h f).air = s.air := rfl
@[simp] theorem State.modOrder_freeDraws : (s.modOrder h f).freeDraws = s.freeDraws := rfl
@[simp] theorem State.modOrder_resetAsserted : (s.modOrder h f).resetAsserted = s.resetAsserted := rfl
@[simp] theorem State.modOrder_runState : (s.modOrder h f).runState = s.runState := rfl
@[simp] theorem State.modOrder_clock : (s.modOrder h f).clock = s.clock := rfl
@[simp] theorem State.modOrder_ale : (s.modOrder h f).ale = s.ale := rfl
@[simp] theorem State.modOrder_psc : (s.modOrder h f).psc = s.psc := rfl
@[simp] theorem State.modOrder_units : (s.modOrder h f).units = s.units := rfl
@[simp] theorem State.modOrder_keys : (s.modOrder h f).keys = s.keys := rfl
@[simp] theorem State.modOrder_orders : (s.modOrder h f).wos.orders = update (fun o => o.handle == h) f s.wos.orders := rfl
@[simp] theorem State.modOrder_nextHandle : (s.modOrder h f).wos.nextHandle = s.wos.nextHandle := rfl
@[simp] theorem State.modOrder_lwm : (s.modOrder h f).lwm = s.lwm := rfl
@[simp] theorem State.modOrder_als : (s.modOrder h f).als = s.als := rfl
@[simp] theorem State.modOrder_swr : (s.modOrder h f).swr = s.swr := rfl
@[simp] theorem State.modOrder_pmt : (s.modOrder h f).pmt = s.pmt := rfl
@[simp] theorem State.modOrder_clp : (s.modOrder h f).clp = s.clp := rfl
@[simp] theorem State.modOrder_now : (s.modOrder h f).now = s.now := rfl

end

section

variable (w : Nat) (f : WorkerRec → WorkerRec) (s : State)

@[simp] theorem State.modWorker_pending : (s.modWorker w f).pending = s.pending := rfl
@[simp] theorem State.modWorker_air : (s.modWorker w f).air = s.air := rfl
@[simp] theorem State.modWorker_freeDraws : (s.modWorker w f).freeDraws = s.freeDraws := rfl
@[simp] theorem State.modWorker_resetAsserted : (s.modWorker w f).resetAsserted = s.resetAsserted := rfl
@[simp] theorem State.modWorker_runState : (s.modWorker w f).runState = s.runState := rfl
@[simp] theorem State.modWorker_clock : (s.modWorker w f).clock = s.clock := rfl
@[simp] theorem State.modWorker_ale : (s.modWorker w f).ale = s.ale := rfl
@[simp] theorem State.modWorker_psc : (s.modWorker w f).psc = s.psc := rfl
@[simp] theorem State.modWorker_units : (s.modWorker w f).units = s.units := rfl
@[simp] theorem State.modWorker_keys : (s.modWorker w f).keys = s.keys := rfl
@[simp] theorem State.modWorker_wos : (s.modWorker w f).wos = s.wos := rfl
@[simp] theorem State.modWorker_workers : (s.modWorker w f).lwm.workers = update (fun r => r.id == w) f s.lwm.workers := rfl
@[simp] theorem State.modWorker_intervals : (s.modWorker w f).lwm.intervals = s.lwm.intervals := rfl
@[simp] theorem State.modWorker_estimate : (s.modWorker w f).lwm.estimate = s.lwm.estimate := rfl
@[simp] theorem State.modWorker_grace : (s.modWorker w f).lwm.grace = s.lwm.grace := rfl
@[simp] theorem State.modWorker_als : (s.modWorker w f).als = s.als := rfl
@[simp] theorem State.modWorker_swr : (s.modWorker w f).swr = s.swr := rfl
@[simp] theorem State.modWorker_pmt : (s.modWorker w f).pmt = s.pmt := rfl
@[simp] theorem State.modWorker_clp : (s.modWorker w f).clp = s.clp := rfl
@[simp] theorem State.modWorker_now : (s.modWorker w f).now = s.now := rfl

end

section

variable (a : Nat) (f : AlarmRec → AlarmRec) (s : State)

@[simp] theorem State.modAlarm_pending : (s.modAlarm a f).pending = s.pending := rfl
@[simp] theorem State.modAlarm_air : (s.modAlarm a f).air = s.air := rfl
@[simp] theorem State.modAlarm_freeDraws : (s.modAlarm a f).freeDraws = s.freeDraws := rfl
@[simp] theorem State.modAlarm_resetAsserted : (s.modAlarm a f).resetAsserted = s.resetAsserted := rfl
@[simp] theorem State.modAlarm_runState : (s.modAlarm a f).runState = s.runState := rfl
@[simp] theorem State.modAlarm_clock : (s.modAlarm a f).clock = s.clock := rfl
@[simp] theorem State.modAlarm_ale : (s.modAlarm a f).ale = s.ale := rfl
@[simp] theorem State.modAlarm_psc : (s.modAlarm a f).psc = s.psc := rfl
@[simp] theorem State.modAlarm_units : (s.modAlarm a f).units = s.units := rfl
@[simp] theorem State.modAlarm_keys : (s.modAlarm a f).keys = s.keys := rfl
@[simp] theorem State.modAlarm_wos : (s.modAlarm a f).wos = s.wos := rfl
@[simp] theorem State.modAlarm_lwm : (s.modAlarm a f).lwm = s.lwm := rfl
@[simp] theorem State.modAlarm_alarms : (s.modAlarm a f).als.alarms = update (fun r => r.id == a) f s.als.alarms := rfl
@[simp] theorem State.modAlarm_nextId : (s.modAlarm a f).als.nextId = s.als.nextId := rfl
@[simp] theorem State.modAlarm_ackWindow : (s.modAlarm a f).als.ackWindow = s.als.ackWindow := rfl
@[simp] theorem State.modAlarm_siteAlarm : (s.modAlarm a f).als.siteAlarm = s.als.siteAlarm := rfl
@[simp] theorem State.modAlarm_swr : (s.modAlarm a f).swr = s.swr := rfl
@[simp] theorem State.modAlarm_pmt : (s.modAlarm a f).pmt = s.pmt := rfl
@[simp] theorem State.modAlarm_clp : (s.modAlarm a f).clp = s.clp := rfl
@[simp] theorem State.modAlarm_now : (s.modAlarm a f).now = s.now := rfl

end

section

variable (d : Nat) (f : DeviceRec → DeviceRec) (s : State)

@[simp] theorem State.modDevice_pending : (s.modDevice d f).pending = s.pending := rfl
@[simp] theorem State.modDevice_air : (s.modDevice d f).air = s.air := rfl
@[simp] theorem State.modDevice_freeDraws : (s.modDevice d f).freeDraws = s.freeDraws := rfl
@[simp] theorem State.modDevice_resetAsserted : (s.modDevice d f).resetAsserted = s.resetAsserted := rfl
@[simp] theorem State.modDevice_runState : (s.modDevice d f).runState = s.runState := rfl
@[simp] theorem State.modDevice_clock : (s.modDevice d f).clock = s.clock := rfl
@[simp] theorem State.modDevice_ale : (s.modDevice d f).ale = s.ale := rfl
@[simp] theorem State.modDevice_psc : (s.modDevice d f).psc = s.psc := rfl
@[simp] theorem State.modDevice_units : (s.modDevice d f).units = s.units := rfl
@[simp] theorem State.modDevice_keys : (s.modDevice d f).keys = s.keys := rfl
@[simp] theorem State.modDevice_wos : (s.modDevice d f).wos = s.wos := rfl
@[simp] theorem State.modDevice_lwm : (s.modDevice d f).lwm = s.lwm := rfl
@[simp] theorem State.modDevice_als : (s.modDevice d f).als = s.als := rfl
@[simp] theorem State.modDevice_devices : (s.modDevice d f).swr.devices = update (fun r => r.number == d) f s.swr.devices := rfl
@[simp] theorem State.modDevice_steps : (s.modDevice d f).swr.steps = s.swr.steps := rfl
@[simp] theorem State.modDevice_nextStep : (s.modDevice d f).swr.nextStep = s.swr.nextStep := rfl
@[simp] theorem State.modDevice_pmt : (s.modDevice d f).pmt = s.pmt := rfl
@[simp] theorem State.modDevice_clp : (s.modDevice d f).clp = s.clp := rfl
@[simp] theorem State.modDevice_now : (s.modDevice d f).now = s.now := rfl

end

section

variable (x : Nat) (f : StepRec → StepRec) (s : State)

@[simp] theorem State.modStep_pending : (s.modStep x f).pending = s.pending := rfl
@[simp] theorem State.modStep_air : (s.modStep x f).air = s.air := rfl
@[simp] theorem State.modStep_freeDraws : (s.modStep x f).freeDraws = s.freeDraws := rfl
@[simp] theorem State.modStep_resetAsserted : (s.modStep x f).resetAsserted = s.resetAsserted := rfl
@[simp] theorem State.modStep_runState : (s.modStep x f).runState = s.runState := rfl
@[simp] theorem State.modStep_clock : (s.modStep x f).clock = s.clock := rfl
@[simp] theorem State.modStep_ale : (s.modStep x f).ale = s.ale := rfl
@[simp] theorem State.modStep_psc : (s.modStep x f).psc = s.psc := rfl
@[simp] theorem State.modStep_units : (s.modStep x f).units = s.units := rfl
@[simp] theorem State.modStep_keys : (s.modStep x f).keys = s.keys := rfl
@[simp] theorem State.modStep_wos : (s.modStep x f).wos = s.wos := rfl
@[simp] theorem State.modStep_lwm : (s.modStep x f).lwm = s.lwm := rfl
@[simp] theorem State.modStep_als : (s.modStep x f).als = s.als := rfl
@[simp] theorem State.modStep_devices : (s.modStep x f).swr.devices = s.swr.devices := rfl
@[simp] theorem State.modStep_steps : (s.modStep x f).swr.steps = update (fun r => r.id == x) f s.swr.steps := rfl
@[simp] theorem State.modStep_nextStep : (s.modStep x f).swr.nextStep = s.swr.nextStep := rfl
@[simp] theorem State.modStep_pmt : (s.modStep x f).pmt = s.pmt := rfl
@[simp] theorem State.modStep_clp : (s.modStep x f).clp = s.clp := rfl
@[simp] theorem State.modStep_now : (s.modStep x f).now = s.now := rfl

end

section

variable (p : Nat) (f : PermitRec → PermitRec) (s : State)

@[simp] theorem State.modPermit_pending : (s.modPermit p f).pending = s.pending := rfl
@[simp] theorem State.modPermit_air : (s.modPermit p f).air = s.air := rfl
@[simp] theorem State.modPermit_freeDraws : (s.modPermit p f).freeDraws = s.freeDraws := rfl
@[simp] theorem State.modPermit_resetAsserted : (s.modPermit p f).resetAsserted = s.resetAsserted := rfl
@[simp] theorem State.modPermit_runState : (s.modPermit p f).runState = s.runState := rfl
@[simp] theorem State.modPermit_clock : (s.modPermit p f).clock = s.clock := rfl
@[simp] theorem State.modPermit_ale : (s.modPermit p f).ale = s.ale := rfl
@[simp] theorem State.modPermit_psc : (s.modPermit p f).psc = s.psc := rfl
@[simp] theorem State.modPermit_units : (s.modPermit p f).units = s.units := rfl
@[simp] theorem State.modPermit_keys : (s.modPermit p f).keys = s.keys := rfl
@[simp] theorem State.modPermit_wos : (s.modPermit p f).wos = s.wos := rfl
@[simp] theorem State.modPermit_lwm : (s.modPermit p f).lwm = s.lwm := rfl
@[simp] theorem State.modPermit_als : (s.modPermit p f).als = s.als := rfl
@[simp] theorem State.modPermit_swr : (s.modPermit p f).swr = s.swr := rfl
@[simp] theorem State.modPermit_permits : (s.modPermit p f).pmt.permits = update (fun r => r.number == p) f s.pmt.permits := rfl
@[simp] theorem State.modPermit_closing : (s.modPermit p f).pmt.closing = s.pmt.closing := rfl
@[simp] theorem State.modPermit_clp : (s.modPermit p f).clp = s.clp := rfl
@[simp] theorem State.modPermit_now : (s.modPermit p f).now = s.now := rfl

end

section

variable (f : Psc → Psc) (s : State)

@[simp] theorem State.modPsc_pending : (s.modPsc f).pending = s.pending := rfl
@[simp] theorem State.modPsc_air : (s.modPsc f).air = s.air := rfl
@[simp] theorem State.modPsc_freeDraws : (s.modPsc f).freeDraws = s.freeDraws := rfl
@[simp] theorem State.modPsc_resetAsserted : (s.modPsc f).resetAsserted = s.resetAsserted := rfl
@[simp] theorem State.modPsc_runState : (s.modPsc f).runState = s.runState := rfl
@[simp] theorem State.modPsc_clock : (s.modPsc f).clock = s.clock := rfl
@[simp] theorem State.modPsc_ale : (s.modPsc f).ale = s.ale := rfl
@[simp] theorem State.modPsc_psc : (s.modPsc f).psc = f s.psc := rfl
@[simp] theorem State.modPsc_units : (s.modPsc f).units = s.units := rfl
@[simp] theorem State.modPsc_keys : (s.modPsc f).keys = s.keys := rfl
@[simp] theorem State.modPsc_wos : (s.modPsc f).wos = s.wos := rfl
@[simp] theorem State.modPsc_lwm : (s.modPsc f).lwm = s.lwm := rfl
@[simp] theorem State.modPsc_als : (s.modPsc f).als = s.als := rfl
@[simp] theorem State.modPsc_swr : (s.modPsc f).swr = s.swr := rfl
@[simp] theorem State.modPsc_pmt : (s.modPsc f).pmt = s.pmt := rfl
@[simp] theorem State.modPsc_clp : (s.modPsc f).clp = s.clp := rfl
@[simp] theorem State.modPsc_now : (s.modPsc f).now = s.now := rfl

end

section

variable (f : Ale → Ale) (s : State)

@[simp] theorem State.modAle_pending : (s.modAle f).pending = s.pending := rfl
@[simp] theorem State.modAle_air : (s.modAle f).air = s.air := rfl
@[simp] theorem State.modAle_freeDraws : (s.modAle f).freeDraws = s.freeDraws := rfl
@[simp] theorem State.modAle_resetAsserted : (s.modAle f).resetAsserted = s.resetAsserted := rfl
@[simp] theorem State.modAle_runState : (s.modAle f).runState = s.runState := rfl
@[simp] theorem State.modAle_clock : (s.modAle f).clock = s.clock := rfl
@[simp] theorem State.modAle_ale : (s.modAle f).ale = f s.ale := rfl
@[simp] theorem State.modAle_psc : (s.modAle f).psc = s.psc := rfl
@[simp] theorem State.modAle_units : (s.modAle f).units = s.units := rfl
@[simp] theorem State.modAle_keys : (s.modAle f).keys = s.keys := rfl
@[simp] theorem State.modAle_wos : (s.modAle f).wos = s.wos := rfl
@[simp] theorem State.modAle_lwm : (s.modAle f).lwm = s.lwm := rfl
@[simp] theorem State.modAle_als : (s.modAle f).als = s.als := rfl
@[simp] theorem State.modAle_swr : (s.modAle f).swr = s.swr := rfl
@[simp] theorem State.modAle_pmt : (s.modAle f).pmt = s.pmt := rfl
@[simp] theorem State.modAle_clp : (s.modAle f).clp = s.clp := rfl
@[simp] theorem State.modAle_now : (s.modAle f).now = s.now := rfl

end

section

variable (f : Clp → Clp) (s : State)

@[simp] theorem State.modClp_pending : (s.modClp f).pending = s.pending := rfl
@[simp] theorem State.modClp_air : (s.modClp f).air = s.air := rfl
@[simp] theorem State.modClp_freeDraws : (s.modClp f).freeDraws = s.freeDraws := rfl
@[simp] theorem State.modClp_resetAsserted : (s.modClp f).resetAsserted = s.resetAsserted := rfl
@[simp] theorem State.modClp_runState : (s.modClp f).runState = s.runState := rfl
@[simp] theorem State.modClp_clock : (s.modClp f).clock = s.clock := rfl
@[simp] theorem State.modClp_ale : (s.modClp f).ale = s.ale := rfl
@[simp] theorem State.modClp_psc : (s.modClp f).psc = s.psc := rfl
@[simp] theorem State.modClp_units : (s.modClp f).units = s.units := rfl
@[simp] theorem State.modClp_keys : (s.modClp f).keys = s.keys := rfl
@[simp] theorem State.modClp_wos : (s.modClp f).wos = s.wos := rfl
@[simp] theorem State.modClp_lwm : (s.modClp f).lwm = s.lwm := rfl
@[simp] theorem State.modClp_als : (s.modClp f).als = s.als := rfl
@[simp] theorem State.modClp_swr : (s.modClp f).swr = s.swr := rfl
@[simp] theorem State.modClp_pmt : (s.modClp f).pmt = s.pmt := rfl
@[simp] theorem State.modClp_clp : (s.modClp f).clp = f s.clp := rfl
@[simp] theorem State.modClp_now : (s.modClp f).now = s.now := rfl

end

end Sys2Proof.Machine
end

