-- ==== Sys2Proof/Tests/Slice0.lean ====
section
/-! SUPPORT. The author's own tests: the checks on ill-formed commands, bytes written out from the manual's layouts, a
few single steps, and for each statement with hypotheses a state and operands that meet them. -/

set_option maxRecDepth 8192

namespace Sys2Proof.Tests

open Sys2Proof.Machine

/-! ## Ill-formed commands -/

theorem test_wellFormed_numbers :
    (Instr.setServiceLevel 0 256).wellFormed = false ∧ (Instr.setRateTable 0 [65536]).wellFormed = false
      ∧ (Instr.setRateTable 0 (List.replicate 256 300)).wellFormed = false
      ∧ (Instr.setChannelTiming 0 ⟨65536, 0, 0, 0, 0, 0⟩).wellFormed = false
      ∧ (Instr.setChannelTiming 0 ⟨0, 0, 0, 0, 256, 0⟩).wellFormed = false
      ∧ (Instr.setClassIntervals 0 ⟨0, 0, 0, 0, 0, 0, 65536⟩).wellFormed = false
      ∧ (Instr.setStatusKeys 0 [⟨256, 1, true⟩]).wellFormed = false
      ∧ (Instr.setStatusKeys 0 [⟨1, 256, true⟩]).wellFormed = false
      ∧ (Instr.setEventLevels 0 [(256, 0)]).wellFormed = false ∧ (Instr.setEventLevels 0 [(1, 256)]).wellFormed = false := by
  decide

theorem test_wellFormed_records :
    (Instr.defineUnit 0 ⟨256, 1, [], 0, 1⟩).wellFormed = false
      ∧ (Instr.defineUnit 0 ⟨1, 1, List.replicate 256 32, 0, 1⟩).wellFormed = false
      ∧ (Instr.removeUnit 0 256).wellFormed = false ∧ (Instr.signOn 0 256).wellFormed = false
      ∧ (Instr.defineWorker 0 65536 1).wellFormed = false ∧ (Instr.moveWorker 0 1 256).wellFormed = false
      ∧ (Instr.removeWorker 0 65536).wellFormed = false ∧ (Instr.queryWorker 0 (.record 65536)).wellFormed = false
      ∧ (Instr.queryOrder 0 (.record (2 ^ 32))).wellFormed = false ∧ (Instr.queryOrder 0 (.unit 256)).wellFormed = false
      ∧ (Instr.recallOrder 0 (2 ^ 32)).wellFormed = false ∧ (Instr.relinkOrder 0 1 65536).wellFormed = false
      ∧ (Instr.postOrder 0 ⟨2 ^ 32, 1, 1, 1, 0, [65], 0⟩).wellFormed = false := by
  decide

theorem test_wellFormed_switching_and_permits :
    (Instr.ackAlarm 0 65536 1).wellFormed = false ∧ (Instr.resolveAlarm 0 65536).wellFormed = false
      ∧ (Instr.defineDevice 0 65536 1 [] 1).wellFormed = false ∧ (Instr.setPosition 0 1 256).wellFormed = false
      ∧ (Instr.queueStep 0 1 256 1).wellFormed = false ∧ (Instr.confirmStep 0 256).wellFormed = false
      ∧ (Instr.queryDevice 0 65536).wellFormed = false
      ∧ (Instr.definePermit 0 ⟨65536, 1, [], []⟩).wellFormed = false
      ∧ (Instr.definePermit 0 ⟨1, 1, [256], []⟩).wellFormed = false
      ∧ (Instr.definePermit 0 ⟨1, 1, [], [⟨65536, 1⟩]⟩).wellFormed = false
      ∧ (Instr.restorePermit 0 ⟨1, 1, [], []⟩ 256).wellFormed = false ∧ (Instr.issuePermit 0 65536).wellFormed = false := by
  decide

theorem test_wellFormed_frames_and_events :
    (Instr.requestFrameArrived [0, 1, 4]).wellFormed = false ∧ (Instr.requestFrameArrived [0, 2, 4, 0, 0]).wellFormed = false
      ∧ (Instr.lengthDiscard 2).wellFormed = false ∧ (Instr.lengthDiscard 1022).wellFormed = false
      ∧ (Instr.frameComplete [0, 5, 0x41, 57]).wellFormed = false ∧ (Instr.burstBadLength 56).wellFormed = false
      ∧ (Instr.noiseRun 0).wellFormed = false ∧ (Instr.truncated 4096).wellFormed = false
      ∧ (Instr.workerDeadlineReached 0).wellFormed = false ∧ (Instr.ackWindowEndRaised 65536).wellFormed = false
      ∧ (Instr.demandAdmission 240).wellFormed = false ∧ (Instr.startByte).wellFormed = true := by
  decide

/-! ## Bytes written out from the layouts -/

/-- The check value of R180. -/
theorem test_crc_check_value : crc16 [0x31, 0x32, 0x33, 0x34, 0x35, 0x36, 0x37, 0x38, 0x39] = 0x29B1#16 := by decide

/-- The ALARM_RAISED entry of R184's example, its first eleven bytes and its detail length. -/
theorem test_alarm_raised_entry :
    (EventEntry.bytes ⟨.alarmRaised, 3, 4410000, .alarm 212, u16 9 ++ u8 5 ++ u8 0 ++ u8 1 ++ u8 1⟩).take 12
      = [0x1A, 0x03, 0x00, 0x00, 0x00, 0x43, 0x4A, 0x90, 0x08, 0x00, 0xD4, 0x06] := by decide

/-- DEFINE WORKER: worker id 2 bytes, unit 1 byte (R183). -/
theorem test_define_worker_body : decodeRequest 0x24 [0x01, 0x02, 0x05] = .defineWorker 0x0102 5 := by decide

/-- POST ORDER: number 4 bytes, unit, priority, hazard, link 2 bytes, text, starting state (R183). -/
theorem test_post_order_body :
    decodeRequest 0x30 [0, 0, 1, 0, 7, 3, 4, 0, 9, 2, 0x41, 0x42, 1]
      = .postOrder ⟨256, 7, 3, 4, 9, [0x41, 0x42], 1⟩ := by decide

/-- QUERY ORDER has two forms, told apart by the length (R183). -/
theorem test_query_order_forms :
    decodeRequest 0x33 [0, 0, 1, 0] = .queryOrder (.record 256) ∧ decodeRequest 0x33 [7] = .queryOrder (.unit 7)
      ∧ decodeRequest 0x33 [0, 7] = .badLength ∧ decodeRequest 0x34 [] = .unknownKind := by decide

/-- The REPLY of R182's example: status key 11, slot 0 OK, FRAME_ACK of serial 40. -/
theorem test_reply_body :
    fitReply [0x0B, 0x11, 0x01, 0x02, 0x28, 0, 0, 0] = .fits (.reply 11 [⟨0, .ok⟩] [.frameAck 40]) := by decide

/-- A REPLY whose length does not follow its counts, and one with a condition outside the list (R182). -/
theorem test_reply_misfits :
    fitReply [0, 0x11, 0x01] = .badLength ∧ fitReply [0, 0x70] = .badLength ∧ fitReply [0, 0x10, 0x06] = .badKind
      ∧ fitReply [0, 0x10, 0x61] = .badKind ∧ fitAlert [6, 3] = .badKind ∧ fitAlert [2, 3] = .fits (.alert 2 .manDown) := by
  decide

/-- Slot 2 reporting MAN_DOWN is 0x23 (R182). -/
theorem test_report_byte : parseReport 0x23 = some ⟨2, .manDown⟩ := by decide

/-! ## The fixture -/

/-- A unit of the HOME fleet. -/
def unit (a : Nat) (c : Contact) : UnitRec :=
  { addr := a, fleet := .home, callSign := [0x41], cls := 0, contact := c
    budget := if c = .lost ∨ c = .signedOff then 0 else 4, heard := c = .inContact, lastKey := 0, paused := false
    lastHeard := none, hazard := 900, nextSerial := 0, outbox := [], waiting := [] }

/-- A worker of a unit, in slot 0, who last checked in at 1,000 s. -/
def worker (i a : Nat) (st : WorkerState) : WorkerRec :=
  { id := i, unit := a, slot := 0, state := st, lastCheckin := some 1000000, interval := 900, stretched := false
    deadline := if st = .ok then some 1900000 else none
    windowEnd := if st = .due ∨ st = .prealert then some 2000000 else none, lastCondition := none, alarmReported := false }

/-- An alarm of worker 9 on unit 5. -/
def alarm (i : Nat) (st : Stage) (call : AllCall) : AlarmRec :=
  { id := i, worker := 9, unit := 5, slot := 0, causes := ⟨true, false, false⟩, stage := st, raises := 1
    opened := 1500000, lastRaised := 1500000, windowEnd := if st = .responding then none else some 2000000, passed := 0
    allCall := call, sent := 0 }

/-- A device that permit 30 may hold. -/
def device (n : Nat) (tags : List Tag) (step : Option Nat) : DeviceRec :=
  ⟨n, .isolator, [0x49], .opened, .defined, 1000000, tags, step⟩

/-- A step that opens device 100, for unit 5. -/
def switchStep (i : Nat) (st : StepState) : StepRec :=
  ⟨i, 100, .open_, 5, st, 1500000, if st = .queued then none else some 4, false⟩

/-- Permit 30 of unit 5 on device 100. -/
def permit (st : PermitState) (control field : Bool) : PermitRec :=
  { number := 30, holder := 5, parties := [7], points := [⟨100, .opened⟩], state := st, control := control, field := field
    live := none, recipients := [⟨5, .holder, .noFrame, .notSent⟩, ⟨7, .party, .noFrame, .notSent⟩]
    lastCause := none, defined := 1000000, changed := 1000000 }

/-- An order of unit 5. -/
def order (h : Nat) (st : OrderState) (link : Option Nat) : OrderRec :=
  { number := 1000 + h, handle := h, unit := 5, priority := .urgent, hazard := .general, permit := link, former := none
    text := [0x41], segAcked := 0, state := st, resume := if st = .blocked then some .stopped else none, stopOut := st = .stopped
    posted := 1500000 }

/-- The part loaded with two rates and both sync words, unit 5 and unit 7, at 2,000 s. -/
def loaded : State :=
  { State.reset with
    clock := 2000000
    ale := { Ale.reset with rateTable := [⟨9600, 9, 4⟩, ⟨4800, 17, 8⟩], syncA := some 0x1ACF#16, syncB := some 0xE530#16 }
    units := [unit 5 .neverHeard, unit 7 .signedOff] }

/-- The part in OPERATING, unit 5 in contact. -/
def running : State :=
  { loaded with
    runState := .operating
    ale := { loaded.ale with rxEnabled := true, carrierWait := true }
    psc := { Psc.reset with cycleState := .openWindow, cycleNumber := 1, openEnd := 2000000 }
    units := [unit 5 .inContact, unit 7 .signedOff] }

/-- The running part with one worker of unit 5. -/
def crewed (st : WorkerState) : State := { running with lwm := { Lwm.reset with workers := [worker 9 5 st] } }

/-- The running part with worker 9 in ALARM, and its alarm 1. -/
def alarmed (st : Stage) (call : AllCall) : State :=
  { crewed .alarm with
    als := { alarms := [alarm 1 st call], nextId := 2, ackWindow := 60, siteAlarm := st = .unanswered }
    psc := { (crewed .alarm).psc with doublePoll := if st = .responding then [] else [5] } }

/-- The running part with device 100 and permit 30. -/
def permitted (st : PermitState) (control field : Bool) : State :=
  { running with
    swr := ⟨[device 100 (if st = .draft then [] else [⟨30, 1000000⟩]) none], [], 1⟩
    pmt := ⟨[permit st control field], []⟩ }

/-- The running part with device 100 and a step on it. -/
def stepping (st : StepState) : State :=
  { running with swr := ⟨[device 100 [] (some 1)], [switchStep 1 st], 2⟩ }

/-- The running part with one order of unit 5. -/
def ordered (st : OrderState) (link : Option Nat) : State :=
  { permitted .suspended false false with wos := ⟨[order 1 st link], 2⟩ }

/-- An entry of worker 9's prompt on air. -/
def prompt : Entry := ⟨.worker 9, .prompt 0 .checkinRequest, 3, false, 0, 1500000, 4, false, true⟩

/-- A notice of order 1, and one of step 1, in an outbox. -/
def orderEntry : Entry := ⟨.order 1, .orderNotice 1 .stop, 3, false, 7, 1500000, 4, true, false⟩

def stepEntry : Entry := ⟨.step 1, .step 1 100 .open_, 2, false, 8, 1500000, 4, true, false⟩

/-- The running part with entries in the outbox of unit 5, the next serial 9. -/
def laden (entries : List Entry) : State :=
  { running with units := [{ unit 5 .inContact with outbox := entries, nextSerial := 9 }, unit 7 .signedOff] }

/-- The line of the fixture is idle. -/
theorem lineIdle_of {s : State} (h : s.clp = Clp.reset 38400 ∧ s.resetAsserted = false) : s.lineIdle := by
  obtain ⟨h1, h2⟩ := h
  exact ⟨h2, by rw [h1]; rfl, by rw [h1]; rfl⟩

/-- The double-poll set is settled where no unit's membership has changed. -/
theorem settled_of {s : State} (h : s.changedUnit? = none) : s.doublePollOk := (changedUnit?_eq_none s).1 h

/-- Deadlines are in order where there is no worker. -/
theorem deadlines_of_none {s : State} (h : s.lwm.workers = []) (hu : (s.units.map UnitRec.addr).Nodup) :
    s.deadlinesOk := by
  refine ⟨by rw [h]; exact List.nodup_nil, hu, ?_⟩
  rw [h]
  exact fun w hw => absurd hw (List.not_mem_nil)

/-! ## Single steps -/

/-- GO of the loaded part: OPERATING, the receiver enabled, the first cycle in its poll phase with unit 5 polled. -/
theorem test_go_begins_a_cycle :
    ∃ t, exec (.go 1) loaded = .next t ∧ t.runState = .operating ∧ t.psc.cycleState = .poll ∧ t.psc.cycleNumber = 1
      ∧ t.psc.polled = [5] ∧ t.ale.txState = .keyup :=
  ⟨_, rfl, by decide, by decide, by decide, by decide, by decide⟩

/-- A missed check-in: DUE at the deadline with a prompt in the outbox, then the alarm and the double-poll set. -/
theorem test_missed_checkin :
    ∃ t, exec (.promptWindowEnd 9) (crewed .due) = .next t ∧ (t.lwm.workers.map WorkerRec.state) = [.alarm]
      ∧ t.als.alarms.map AlarmRec.stage = [.raised] ∧ t.psc.doublePoll = [5] :=
  ⟨_, rfl, by decide, by decide, by decide⟩

/-! ## States and operands that meet the hypotheses of each statement -/

/-- A sample at mark, with carrier. -/
def mark : Sample := ⟨true, true⟩

/-- A sample without carrier. -/
def quiet : Sample := ⟨false, false⟩

theorem test_meets_StepTakesFrontCommand :
    (State.reset.pending = [] ∧ State.reset.air = [])
      ∧ (({ State.reset with air := [mark] } : State).air = mark :: [] ∧ State.reset.ale.rxEnabled = false)
      ∧ ({ running with air := [quiet], ale.txState := .keyup } : State).ale.txState ≠ .idle := by
  decide

theorem test_meets_PowerAndResetRows :
    ({ State.reset with resetAsserted := true } : State).resetAsserted = true ∧ State.reset.resetAsserted = false :=
  ⟨rfl, rfl⟩

theorem test_meets_SiteClockTick :
    (State.reset.resetAsserted = false ∧ State.reset.clock ≠ BitVec.allOnes 48)
      ∧ ({ State.reset with clock := BitVec.allOnes 48 } : State).clock = BitVec.allOnes 48
      ∧ ({ State.reset with resetAsserted := true } : State).resetAsserted = true := by decide

/-- The part with a frame coming in. -/
def taking : State := { running with clp := { running.clp with inFrame := true } }

theorem test_meets_SerialReceiverRows :
    taking.resetAsserted = false ∧ taking.clp.inFrame = true
      ∧ (((1 : Half).toNat < 2 ∨ 1022 < (1 : Half).toNat) ∧ ((1023 : Half).toNat < 2 ∨ 1022 < (1023 : Half).toNat))
      ∧ within 2 1022 (2 : Half).toNat ∧ within 2 1022 (1022 : Half).toNat ∧ running.clp.inFrame = false := by
  unfold within
  decide

/-- A reply on the line. -/
def reply : Reply := ⟨0x04, 7, .ok, []⟩

/-- A busy line with r requests and m marks waiting, and a frame coming in. -/
def busy (r m : Nat) : State :=
  { running with clp := { running.clp with
      inFrame := true, sending := some reply
      order := List.replicate r (.request 0x04 1 .queryPart) ++ List.replicate m (.mark 0x04 2 .busy) } }

theorem test_meets_ArrivalsArePlaced :
    (Instr.request? (.go 3) = some (3, .go) ∧ (busy 3 4).resetAsserted = false ∧ (busy 3 4).clp.sending.isSome = true
      ∧ (busy 3 4).clp.requests = 3 ∧ (busy 4 3).clp.requests = 4 ∧ (busy 4 3).clp.marks = 3 ∧ (busy 4 4).clp.marks = 4)
    ∧ (serialParts (requestFrame 3 .queryPart)).map SerialParts.checked = some true
    ∧ (serialParts [0, 2, 4, 3, 0, 0]).map SerialParts.checked = some false ∧ (busy 4 4).clp.inFrame = true := by
  decide

theorem test_meets_RepliesLeaveInOrder :
    running.clp.sending = none ∧ ((busy 0 0).clp.sending.isSome = true ∧ (busy 0 0).clp.order = [])
      ∧ (busy 0 1).clp.order = [.mark 0x04 2 .busy] ∧ (busy 1 0).clp.order = [.request 0x04 1 .queryPart]
      ∧ ({ busy 0 0 with clp.order := [.mark 0x04 2 .badFrame] } : State).clp.sending.isSome = true
      ∧ (serialParts [0, 2, 4, 3, 0, 0]).map SerialParts.checked = some false
      ∧ taking.resetAsserted = false ∧ taking.clp.sending = none ∧ taking.clp.order = [] ∧ taking.clp.inFrame = true := by
  decide

theorem test_meets_RequestBodiesDecode :
    (Request.setRateTable []).wellFormed = true ∧ (Request.queryWorker (.record 65535)).wellFormed = true
      ∧ (Request.postOrder ⟨2 ^ 32 - 1, 255, 255, 255, 65535, List.replicate 255 65, 255⟩).wellFormed = true := by
  decide

theorem test_meets_RequestFrameIsItsRow :
    Instr.request? (.defineWorker 3 65535 255) = some (3, .defineWorker 65535 255)
      ∧ (Request.defineWorker 65535 255).wellFormed = true ∧ taking.resetAsserted = false ∧ taking.clp.inFrame = true := by
  decide

/-- An event entry of a level. -/
def event (l : Nat) : EventEntry := ⟨.unitHeard, l, 0, .unit 5, []⟩

/-- The link with n events of a level in its queue. -/
def queued (n l : Nat) : Clp := { Clp.reset 38400 with queue := List.replicate n (event l), attn := decide (n ≠ 0) }

theorem test_meets_QueueKeepsTheHighest :
    (within 1 3 (event 1).level ∧ within 1 3 (event 3).level) ∧ (queued 47 1).queue.length < 48
      ∧ (48 ≤ (queued 48 1).queue.length ∧ ∃ x ∈ (queued 48 1).queue, x.level < (event 2).level)
      ∧ (48 ≤ (queued 48 3).queue.length ∧ ∀ x ∈ (queued 48 3).queue, (event 3).level ≤ x.level)
      ∧ (queued 48 3).queue.length ≤ 48 := by
  unfold within
  decide

theorem line_running : running.lineIdle ∧ running.doublePollOk :=
  ⟨lineIdle_of (by decide), settled_of (by decide)⟩

theorem line_loaded : loaded.lineIdle ∧ loaded.doublePollOk :=
  ⟨lineIdle_of (by decide), settled_of (by decide)⟩

theorem test_meets_CollectEvents :
    ({ running with clp := queued 9 3 } : State).lineIdle ∧ ({ running with clp := queued 9 3 } : State).doublePollOk
      ∧ ∀ e ∈ (queued 9 3).queue, within 1 3 e.level :=
  ⟨⟨rfl, rfl, rfl⟩, settled_of (by decide), by unfold within; decide⟩

theorem test_meets_SetEventLevels :
    running.lineIdle ∧ running.doublePollOk ∧ running.clp.levels.length = 42
      ∧ (within 1 64 [(1, 0), (42, 3)].length ∧ (∀ p ∈ [(1, 0), (42, 3)], within 1 42 p.1 ∧ p.2 ≤ 3)
        ∧ ([(1, 0), (42, 3)].map Prod.fst).Nodup)
      ∧ ¬ within 1 64 ([] : List (Nat × Nat)).length :=
  ⟨line_running.1, line_running.2, by decide, by unfold within; decide, by unfold within; decide⟩

theorem test_meets_LinkKept : (busy 4 4).clp.orderOk ∧ (queued 48 3).queueOk ∧ ∃ t, step (busy 4 4) = .next t :=
  ⟨by unfold Clp.orderOk; decide, by unfold Clp.queueOk; decide, _, rfl⟩

theorem test_meets_RunStateGates :
    (loaded.lineIdle ∧ loaded.doublePollOk ∧ loaded.runState = .loading ∧ loaded.clp.orderOk)
      ∧ (running.lineIdle ∧ running.doublePollOk ∧ running.runState = .operating)
      ∧ (∃ t, exec (.go 1) loaded = .next t ∧ t.runState = .operating)
      ∧ (∃ t, exec (.queryPart 1) running = .next t)
      ∧ (within 1 239 5 ∧ within 1 3 3 ∧ within 1 4 4 ∧ within 1 240 1 ∧ within 2 5 2 ∧ within 2 5 5) :=
  ⟨⟨line_loaded.1, line_loaded.2, rfl, by unfold Clp.orderOk; decide⟩, ⟨line_running.1, line_running.2, rfl⟩,
    ⟨_, rfl, by decide⟩, ⟨_, rfl⟩, by unfold within; decide⟩

theorem test_meets_SetServiceLevel :
    running.lineIdle ∧ running.doublePollOk ∧ ¬ within 1 3 0 ∧ ¬ within 1 3 4 :=
  ⟨line_running.1, line_running.2, by unfold within; decide, by unfold within; decide⟩

theorem test_meets_SetRateTable :
    (loaded.lineIdle ∧ loaded.doublePollOk ∧ loaded.runState = .loading)
      ∧ (within 1 6 [9600, 300].length ∧ (∀ b ∈ [9600, 300], within 300 9600 b) ∧ [9600, 300].Pairwise (fun a b => b < a)
        ∧ ([9600, 300].map (fun b => (8064000 + 100 * b - 1) / (100 * b))).Nodup)
      ∧ ¬ ([9600, 9500].map (fun b => (8064000 + 100 * b - 1) / (100 * b))).Nodup
      ∧ running.lineIdle ∧ running.doublePollOk ∧ running.runState = .operating :=
  ⟨⟨line_loaded.1, line_loaded.2, rfl⟩, by unfold within; decide, by decide, line_running.1, line_running.2, rfl⟩

theorem test_meets_SetSyncWords :
    (loaded.lineIdle ∧ loaded.doublePollOk ∧ loaded.runState = .loading)
      ∧ 4 ≤ ((List.range 16).filter (fun i => (0x1ACF#16).getLsbD i != (0x1AC0#16).getLsbD i)).length
      ∧ ((List.range 16).filter (fun i => (0x1ACF#16).getLsbD i != (0x1AC1#16).getLsbD i)).length < 4
      ∧ running.lineIdle ∧ running.runState = .operating :=
  ⟨⟨line_loaded.1, line_loaded.2, rfl⟩, by decide, by decide, line_running.1, rfl⟩

theorem test_meets_SetChannelTiming :
    (laden [prompt]).lineIdle ∧ max 1 (min 8 3) < prompt.retries ∧ ¬ max 1 (min 8 4) < prompt.retries :=
  ⟨lineIdle_of (by decide), by decide, by decide⟩

theorem test_meets_SetClassIntervals : running.lineIdle := line_running.1

theorem test_meets_SetStatusKeys :
    running.lineIdle ∧ running.doublePollOk
      ∧ (∀ k ∈ ([⟨1, 1, true⟩, ⟨255, 5, false⟩] : List KeyArg), within 1 255 k.code ∧ within 1 5 k.action)
      ∧ ¬ within 1 255 (⟨0, 1, true⟩ : KeyArg).code :=
  ⟨line_running.1, line_running.2, by unfold within; decide, by unfold within; decide⟩

theorem test_meets_QueryPartAndLink : running.lineIdle ∧ running.doublePollOk := line_running

theorem test_meets_QueryRosterAndOrders :
    (crewed .ok).lineIdle ∧ (crewed .ok).doublePollOk ∧ running.unit? 6 = none ∧ running.unit? 5 = some (unit 5 .inContact)
      ∧ running.worker? 9 = none ∧ (crewed .ok).worker? 9 = some (worker 9 5 .ok) ∧ running.orderNumbered? 1001 = none
      ∧ (ordered .working (some 30)).orderNumbered? 1001 = some (order 1 .working (some 30)) :=
  ⟨lineIdle_of (by decide), settled_of (by decide), by decide, by decide, by decide, by decide, by decide, by decide⟩

theorem test_meets_QueryAlarmsStepsAndPermits :
    (stepping .sent).lineIdle ∧ (stepping .sent).doublePollOk ∧ running.alarm? 1 = none
      ∧ (alarmed .raised .notWanted).alarm? 1 = some (alarm 1 .raised .notWanted) ∧ running.device? 100 = none
      ∧ (stepping .sent).device? 100 = some (device 100 [] (some 1)) ∧ running.unit? 6 = none
      ∧ (running.unit? 5).isSome = true ∧ running.permit? 30 = none
      ∧ (permitted .active true true).permit? 30 = some (permit .active true true) :=
  ⟨lineIdle_of (by decide), settled_of (by decide), by decide, by decide, by decide, by decide, by decide, by decide,
    by decide, by decide⟩

theorem test_meets_DefineAndRemoveUnit :
    (running.lineIdle ∧ within 1 239 239 ∧ Fleet.visiting.code = 2 ∧ within 1 8 ([0x20, 0x7E] : List Byte).length
      ∧ (∀ b ∈ ([0x20, 0x7E] : List Byte), within 32 126 b.toNat) ∧ within 1 2 1 ∧ within 1 2 2
      ∧ 1 < running.ale.rateTable.length ∧ running.unit? 239 = none ∧ running.units.length < 48)
    ∧ (running.unit? 7).isSome = true ∧ (∀ w ∈ running.lwm.workers, w.unit ≠ 7) ∧ (∀ o ∈ running.wos.orders, o.unit ≠ 7)
    ∧ (∀ x ∈ running.swr.steps, x.unit ≠ 7) ∧ (∀ p ∈ running.pmt.permits, 7 ∉ p.members) :=
  ⟨⟨line_running.1, by unfold within; decide, rfl, by unfold within; decide, by unfold within; decide,
    by unfold within; decide, by unfold within; decide, by decide, by decide, by decide⟩, by decide, by decide, by decide,
    by decide, by decide⟩

theorem ranges_of {s : State} (h1 : s.psc.timing = Timing.default) (h2 : s.lwm.intervals = Lwm.reset.intervals)
    (h3 : s.als.ackWindow = 60) (h4 : s.units.map UnitRec.hazard = [900, 900]) : s.rangesOk := by
  unfold State.rangesOk
  rw [h1, h2, h3]
  refine ⟨by unfold within; decide, by unfold within; decide, by unfold within; decide, fun u hu => ?_⟩
  have hm : u.hazard ∈ s.units.map UnitRec.hazard := List.mem_map_of_mem hu
  rw [h4] at hm
  have : u.hazard = 900 := by simpa using hm
  rw [this]
  unfold within
  decide

theorem test_meets_SignOnAndSignOff :
    (running.lineIdle ∧ running.loadingOk ∧ running.deadlinesOk ∧ running.rangesOk
      ∧ running.unit? 7 = some (unit 7 .signedOff))
    ∧ ((crewed .ok).lineIdle ∧ ((crewed .ok).lwm.workers.map WorkerRec.id).Nodup
      ∧ (crewed .ok).unit? 5 = some (unit 5 .inContact) ∧ (∀ p ∈ (crewed .ok).pmt.permits, 5 ∉ p.members)
      ∧ (∀ o ∈ (crewed .ok).wos.orders, o.unit = 5 → o.state = .posted) ∧ ∀ r ∈ (crewed .ok).als.alarms, r.unit ≠ 5) :=
  ⟨⟨line_running.1, by unfold State.loadingOk; decide, deadlines_of_none rfl (by decide),
    ranges_of rfl rfl rfl (by decide), by decide⟩, lineIdle_of (by decide), by decide, by decide, by decide, by decide,
    by decide⟩

/-- Unit 5 with an order's and a step's entry at its sign-off, the step awaited or not. -/
def leaving (awaited : Bool) : State :=
  { laden [orderEntry, stepEntry] with
    swr := ⟨[device 100 [] (some 1)], [{ switchStep 1 .sent with awaited := awaited }], 2⟩ }

theorem test_meets_SignOnAndSignOff_outbox :
    ((leaving true).lineIdle ∧ ((leaving true).swr.steps.map StepRec.id).Nodup ∧ orderEntry.source = .order 1
      ∧ orderEntry ∈ ((leaving true).units.flatMap UnitRec.outbox) ∧ stepEntry.source = .step 1
      ∧ (∃ q ∈ (leaving true).swr.steps, q.unit = 5 ∧ q.state = .sent ∧ q.awaited = true))
    ∧ ∀ q ∈ (leaving false).swr.steps, q.id = 1 → q.awaited = false :=
  ⟨⟨lineIdle_of (by decide), by decide, by decide, by decide, by decide, by decide⟩, by decide⟩

theorem test_meets_SignOnAndSignOff_refusals :
    (running.lineIdle ∧ running.doublePollOk ∧ running.unit? 6 = none ∧ running.unit? 7 = some (unit 7 .signedOff))
    ∧ ((permitted .draft false false).lineIdle ∧ ∃ p ∈ (permitted .draft false false).pmt.permits, 5 ∈ p.members)
    ∧ (∃ o ∈ (ordered .sending none).wos.orders, o.unit = 5 ∧ o.state ≠ .posted)
    ∧ ((alarmed .responding .notWanted).lineIdle ∧ (∀ p ∈ (alarmed .responding .notWanted).pmt.permits, 5 ∉ p.members)
      ∧ (∀ o ∈ (alarmed .responding .notWanted).wos.orders, o.unit = 5 → o.state = .posted)
      ∧ ∃ r ∈ (alarmed .responding .notWanted).als.alarms, r.unit = 5) :=
  ⟨⟨line_running.1, line_running.2, by decide, by decide⟩, ⟨lineIdle_of (by decide), by decide⟩, by decide,
    lineIdle_of (by decide), by decide, by decide, by decide⟩

/-- A key table with every action. -/
def keyTable : List StatusKey :=
  [⟨1, .noAction, true⟩, ⟨2, .crewCheckin, false⟩, ⟨3, .pause, true⟩, ⟨4, .resume, false⟩, ⟨255, .signOff, true⟩]

theorem test_meets_SignOnAndSignOff_keys :
    running.unit? 5 = some (unit 5 .inContact) ∧ (unit 5 .inContact).lastKey = 0 ∧ (keyTable.map StatusKey.code).Nodup
      ∧ (∀ k ∈ keyTable, k.code ≠ 254) ∧ keyTable.map StatusKey.action = [.noAction, .crewCheckin, .pause, .resume, .signOff]
      ∧ ({ unit 5 .inContact with lastKey := 2 } : UnitRec).lastKey = 2 := by
  decide

/-- A worker in OK at its deadline meets R87 and R89. -/
theorem deadlines_crewed : (crewed .ok).deadlinesOk := by
  refine ⟨by decide, by decide, fun w hw => ?_⟩
  have h : w = worker 9 5 .ok := by simpa [crewed] using hw
  subst h
  exact ⟨by decide, by decide, by decide, fun _ => ⟨1000000, by decide, by decide⟩, by decide, by decide⟩

theorem test_meets_DefineMoveAndRemoveWorker :
    (running.lineIdle ∧ running.doublePollOk ∧ running.rangesOk ∧ within 1 65535 65535 ∧ within 1 239 5
      ∧ running.unit? 5 = some (unit 5 .inContact) ∧ running.worker? 65535 = none ∧ (running.workersOf 5).length < 6
      ∧ running.lwm.workers.length < 64)
    ∧ ((crewed .ok).lineIdle ∧ (crewed .ok).deadlinesOk ∧ (crewed .ok).rangesOk
      ∧ (crewed .ok).worker? 9 = some (worker 9 5 .ok) ∧ (crewed .ok).unit? 7 = some (unit 7 .signedOff)
      ∧ (worker 9 5 .ok).unit ≠ 7 ∧ ((crewed .ok).workersOf 7).length < 6 ∧ (worker 9 5 .ok).state ≠ .alarm) :=
  ⟨⟨line_running.1, line_running.2, ranges_of rfl rfl rfl (by decide), by unfold within; decide,
    by unfold within; decide, by decide, by decide, by decide, by decide⟩, lineIdle_of (by decide), deadlines_crewed,
    ranges_of rfl rfl rfl (by decide), by decide, by decide, by decide, by decide, by decide⟩

/-- Where MOVE WORKER puts a worker in OK: DUE at the deadline (15 min after 1,000 s is 1,900 s), OK before it. -/
theorem test_meets_MoveWorker_states :
    (max (unit 6 .inContact).hazard ((2 * (crewed .ok).lwm.estimate + (crewed .ok).lwm.grace + 999) / 1000) = 900
      ∧ ((worker 9 5 .ok).lastCheckin.getD 0 + 1000 * 900 = 1900000) ∧ 1900000 ≤ (crewed .ok).now
      ∧ ¬ 1900000 ≤ ({ crewed .ok with clock := 1899999 } : State).now)
    ∧ ((crewed .inactive).worker? 9 = some (worker 9 5 .inactive) ∧ (crewed .inactive).runState = .operating
      ∧ ({ crewed .inactive with runState := .loading } : State).runState = .loading) := by
  decide

theorem test_meets_PostOrder :
    running.lineIdle ∧ running.numbersOk
      ∧ (within 1 239 5 ∧ within 1 3 3 ∧ within 1 4 4 ∧ within 1 240 240 ∧ within 1 240 1)
      ∧ running.unit? 5 = some (unit 5 .inContact) ∧ running.orderNumbered? 1 = none ∧ running.wos.orders.length < 96
      ∧ (loaded.lineIdle ∧ loaded.numbersOk ∧ loaded.runState = .loading)
      ∧ ((permitted .active true true).permit? 30 = some (permit .active true true) ∧ 5 ∈ (permit .active true true).members) :=
  ⟨line_running.1, by unfold State.numbersOk; decide, by unfold within; decide, by decide, by decide, by decide,
    ⟨line_loaded.1, by unfold State.numbersOk; decide, rfl⟩, by decide, by decide⟩

theorem test_meets_RecallAndRelinkOrder :
    ((ordered .posted none).lineIdle ∧ (ordered .posted none).numbersOk
      ∧ (ordered .posted none).orderNumbered? 1001 = some (order 1 .posted none)
      ∧ (ordered .posted none).unit? 5 = some (unit 5 .inContact))
    ∧ ((ordered .working (some 30)).lineIdle ∧ (ordered .working (some 30)).numbersOk
      ∧ (order 1 .working (some 30)).state ≠ .posted)
    ∧ ((ordered .recalling none).lineIdle ∧ (ordered .recalling none).numbersOk ∧ (ordered .recalling none).doublePollOk
      ∧ (order 1 .recalling none).state = .recalling ∧ (unit 5 .inContact).contact ≠ .lost)
    ∧ ({ ordered .recalling none with units := [unit 5 .lost] } : State).unit? 5 = some (unit 5 .lost)
    ∧ ((ordered .blocked none).lineIdle ∧ (ordered .blocked none).numbersOk
      ∧ (ordered .blocked none).orderNumbered? 1001 = some (order 1 .blocked none)
      ∧ (ordered .blocked none).permit? 30 = some (permit .suspended false false)
      ∧ 5 ∈ (permit .suspended false false).members) :=
  ⟨⟨lineIdle_of (by decide), by unfold State.numbersOk; decide, by decide, by decide⟩,
    ⟨lineIdle_of (by decide), by unfold State.numbersOk; decide, by decide⟩,
    ⟨lineIdle_of (by decide), by unfold State.numbersOk; decide, settled_of (by decide), by decide, by decide⟩, by decide,
    lineIdle_of (by decide), by unfold State.numbersOk; decide, by decide, by decide, by decide⟩

/-- An ORDER_STATE item: no order, another unit's, and each effect of the table of R69. -/
theorem test_meets_CrewReport :
    (running.order? 1 = none ∧ (ordered .delivered none).order? 1 = some (order 1 .delivered none)
      ∧ (order 1 .delivered none).unit ≠ 7)
    ∧ ((order 1 .delivered none).permit.isSome = false ∧ (order 1 .delivered (some 30)).permit.isSome = true
      ∧ CrewState.accepted.code - 1 = 0 ∧ CrewState.declined.code - 1 = 5)
    ∧ ((ordered .onSite none).order? 1 = some (order 1 .onSite none)
      ∧ (ordered .stopped (some 30)).order? 1 = some (order 1 .stopped (some 30))
      ∧ (ordered .gated (some 30)).order? 1 = some (order 1 .gated (some 30))
      ∧ (ordered .enRoute (some 30)).order? 1 = some (order 1 .enRoute (some 30)))
    ∧ ((ordered .gated (some 30)).permit? 30 = some (permit .suspended false false)
      ∧ (permit .suspended false false).state ≠ .active ∧ (permit .active true true).state = .active
      ∧ ((ordered .gated (some 30)).unit? 5).isSome = true) := by
  decide

theorem test_meets_AckAndResolveAlarm :
    ((alarmed .unanswered .queued).lineIdle ∧ (alarmed .unanswered .queued).doublePollOk
      ∧ (alarmed .unanswered .queued).runState = .operating
      ∧ ((alarmed .unanswered .queued).als.alarms.map AlarmRec.id).Nodup ∧ within 1 65535 1 ∧ within 1 255 1 ∧ within 1 255 255
      ∧ (alarmed .unanswered .queued).alarm? 1 = some (alarm 1 .unanswered .queued))
    ∧ ((alarmed .responding .notWanted).lineIdle ∧ (alarmed .responding .notWanted).doublePollOk
      ∧ (alarmed .responding .notWanted).deadlinesOk ∧ (alarmed .responding .notWanted).rangesOk
      ∧ (alarmed .responding .notWanted).alarm? 1 = some (alarm 1 .responding .notWanted)
      ∧ (alarmed .responding .notWanted).worker? 9 = some (worker 9 5 .alarm)) := by
  refine ⟨⟨lineIdle_of (by decide), settled_of (by decide), by decide, by decide, by unfold within; decide,
    by unfold within; decide, by unfold within; decide, by decide⟩, lineIdle_of (by decide), settled_of (by decide),
    ⟨by decide, by decide, fun w hw => ?_⟩, ranges_of rfl rfl rfl (by decide), by decide, by decide⟩
  have h : w = worker 9 5 .alarm := by simpa [alarmed, crewed] using hw
  subst h
  exact ⟨by decide, by decide, by decide, fun h => absurd h (by decide), by decide, by decide⟩

theorem test_meets_DefineDeviceAndSetPosition :
    (running.lineIdle ∧ running.doublePollOk ∧ within 1 65535 65535 ∧ running.device? 65535 = none
      ∧ running.swr.devices.length < 128)
    ∧ ((permitted .active true true).lineIdle ∧ within 1 65535 100
      ∧ (permitted .active true true).device? 100 = some (device 100 [⟨30, 1000000⟩] none)
      ∧ ((stepping .sent).lineIdle ∧ (device 100 [] (some 1)).pendingStep.bind (stepping .sent).step? = some (switchStep 1 .sent))
      ∧ (device 100 [] (some 1)).pendingStep.bind (stepping .queued).step? = some (switchStep 1 .queued))
    ∧ ((stepping .confirmed).lineIdle ∧ (stepping .confirmed).doublePollOk
      ∧ (stepping .confirmed).device? 100 = some (device 100 [] (some 1))
      ∧ (device 100 [] (some 1)).pendingStep.bind (stepping .confirmed).step? = some (switchStep 1 .confirmed)) :=
  ⟨⟨line_running.1, line_running.2, by unfold within; decide, by decide, by decide⟩,
    ⟨lineIdle_of (by decide), by unfold within; decide, by decide, ⟨lineIdle_of (by decide), by decide⟩, by decide⟩,
    lineIdle_of (by decide), settled_of (by decide), by decide, by decide⟩

theorem test_meets_QueueStep :
    (permitted .active true true).lineIdle ∧ (permitted .active true true).doublePollOk
      ∧ (permitted .active true true).runState = .operating ∧ (permitted .active true true).numbersOk
      ∧ within 1 65535 100 ∧ within 1 239 5
      ∧ (permitted .active true true).device? 100 = some (device 100 [⟨30, 1000000⟩] none)
      ∧ (permitted .active true true).unit? 5 = some (unit 5 .inContact)
      ∧ (permitted .active true true).swr.steps.length < 32 ∧ Operation.open_.gives = DeviceKind.isolator.held
      ∧ Operation.close.gives ≠ DeviceKind.isolator.held :=
  ⟨lineIdle_of (by decide), settled_of (by decide), rfl, by unfold State.numbersOk; decide, by unfold within; decide,
    by unfold within; decide, by decide, by decide, by decide, by decide, by decide⟩

/-- The stepping part with its device tagged. -/
def tagged (st : StepState) : State :=
  { stepping st with swr := ⟨[device 100 [⟨30, 1000000⟩] (some 1)], [switchStep 1 st], 2⟩ }

theorem test_meets_ConfirmAndAbortStep :
    ((stepping .readBack).lineIdle ∧ (stepping .readBack).doublePollOk ∧ (stepping .readBack).runState = .operating
      ∧ within 1 255 1 ∧ (stepping .readBack).step? 1 = some (switchStep 1 .readBack)
      ∧ (stepping .readBack).device? 100 = some (device 100 [] (some 1)) ∧ ((stepping .readBack).unit? 5).isSome = true)
    ∧ ((tagged .readBack).lineIdle ∧ (tagged .readBack).doublePollOk
      ∧ (tagged .readBack).device? 100 = some (device 100 [⟨30, 1000000⟩] (some 1)))
    ∧ ((tagged .confirmed).lineIdle ∧ (tagged .confirmed).step? 1 = some (switchStep 1 .confirmed)
      ∧ (stepping .queued).lineIdle ∧ (stepping .queued).step? 1 = some (switchStep 1 .queued)) :=
  ⟨⟨lineIdle_of (by decide), settled_of (by decide), rfl, by unfold within; decide, by decide, by decide, by decide⟩,
    ⟨lineIdle_of (by decide), settled_of (by decide), by decide⟩, lineIdle_of (by decide), by decide,
    lineIdle_of (by decide), by decide⟩

/-- Step 1 awaiting its read-back, with a count of read-backs left. -/
def awaiting (left : Nat) : State :=
  { stepping .sent with
    swr := ⟨[device 100 [] (some 1)], [{ switchStep 1 .sent with awaited := true, readbacks := some left }], 2⟩ }

/-- A READBACK and a STEP_DONE: no step, another unit's, in another state, and each case of the one they answer. -/
theorem test_meets_StepItems :
    (running.step? 1 = none ∧ (stepping .sent).step? 1 = some (switchStep 1 .sent) ∧ (switchStep 1 .sent).unit ≠ 7
      ∧ (switchStep 1 .confirmed).state ≠ .sent ∧ (switchStep 1 .sent).state ≠ .confirmed
      ∧ (switchStep 1 .sent).awaited = false)
    ∧ ((∃ x, (awaiting 2).step? 1 = some x ∧ x.unit = 5 ∧ x.state = .sent ∧ x.awaited = true ∧ 1 < x.readbacks.getD 0
        ∧ (100 = x.device ∧ Operation.open_ = x.operation) ∧ ¬ (100 = x.device ∧ Operation.close = x.operation))
      ∧ (∃ x, (awaiting 1).step? 1 = some x ∧ x.awaited = true ∧ x.readbacks.getD 0 ≤ 1)
      ∧ (awaiting 2).device? 100 = some (device 100 [] (some 1)) ∧ ((awaiting 2).unit? 5).isSome = true)
    ∧ ((tagged .confirmed).step? 1 = some (switchStep 1 .confirmed)
      ∧ (tagged .confirmed).device? 100 = some (device 100 [⟨30, 1000000⟩] (some 1))
      ∧ ((device 100 [⟨30, 1000000⟩] (some 1)).tags ≠ [] ∧ Position.closed ≠ (device 100 [] none).kind.held)
      ∧ ¬ Position.opened ≠ (device 100 [] none).kind.held) :=
  ⟨by decide, ⟨⟨_, rfl, by decide⟩, ⟨_, rfl, by decide⟩, by decide, by decide⟩, by decide⟩

/-- The definition of permit 30. -/
def permitArg : PermitArg := ⟨30, 5, [7], [⟨100, 1⟩]⟩

/-- The loaded part with device 100. -/
def devices : State := { loaded with swr := ⟨[device 100 [] none], [], 1⟩ }

theorem test_meets_DefineAndRestorePermit :
    devices.lineIdle ∧ devices.doublePollOk ∧ PermitFields permitArg ∧ devices.definable permitArg
      ∧ devices.runState = .loading ∧ devices.issuable (permitArg.points.map pointOf) := by
  refine ⟨lineIdle_of (by decide), settled_of (by decide), by unfold PermitFields within; decide,
    ⟨by decide, by decide, by decide, ⟨unit 5 .neverHeard, by decide, by decide⟩, ?_, ?_⟩, by decide, ?_⟩
  · intro p hp
    have h : p = ⟨100, 1⟩ := by simpa [permitArg] using hp
    subst h
    exact ⟨device 100 [] none, by decide, by decide⟩
  · exact ⟨⟨100, 1⟩, by decide, device 100 [] none, by decide, by decide⟩
  · intro p hp
    have h : p = ⟨100, .opened⟩ := by simpa [permitArg, pointOf] using hp
    subst h
    exact ⟨device 100 [] none, by decide, by decide, by decide, by decide⟩

theorem test_meets_IssueAndWithdrawPermit :
    ((permitted .draft false false).lineIdle ∧ ((permitted .draft false false).pmt.permits.map PermitRec.number).Nodup
      ∧ (permit .draft false false).members.Nodup
      ∧ (permitted .draft false false).permit? 30 = some (permit .draft false false)
      ∧ (permitted .draft false false).issuable [⟨100, .opened⟩] ∧ (permitted .draft false false).numbersOk)
    ∧ ((permitted .offered true false).lineIdle ∧ (permit .offered true false).members.Nodup
      ∧ (permitted .offered true false).permit? 30 = some (permit .offered true false)) := by
  refine ⟨⟨lineIdle_of (by decide), by decide, by decide, by decide, fun p hp => ?_, by unfold State.numbersOk; decide⟩,
    lineIdle_of (by decide), by decide, by decide⟩
  have h : p = ⟨100, .opened⟩ := by simpa using hp
  subst h
  exact ⟨device 100 [] none, by decide, by decide, by decide, by decide⟩

theorem test_meets_SuspendAndResumePermit :
    ((permitted .active true true).lineIdle ∧ ((permitted .active true true).pmt.permits.map PermitRec.number).Nodup
      ∧ (permit .active true true).members.Nodup
      ∧ (permitted .active true true).permit? 30 = some (permit .active true true)
      ∧ (permitted .active true true).numbersOk)
    ∧ ((permitted .suspended false true).lineIdle
      ∧ (permitted .suspended false true).permit? 30 = some (permit .suspended false true)
      ∧ ∃ d, (permitted .suspended false true).device? 100 = some d ∧ d.position = .opened)
    ∧ ((permitted .suspended true false).lineIdle ∧ (permitted .suspended true false).doublePollOk
      ∧ (permitted .suspended true false).permit? 30 = some (permit .suspended true false)) :=
  ⟨⟨lineIdle_of (by decide), by decide, by decide, by decide, by unfold State.numbersOk; decide⟩,
    ⟨lineIdle_of (by decide), by decide, _, rfl, by decide⟩, lineIdle_of (by decide), settled_of (by decide), by decide⟩

/-- The suspended permit with its device closed. -/
def misplaced : State :=
  { permitted .suspended false false with
    swr := ⟨[{ device 100 [⟨30, 1000000⟩] none with position := .closed }], [], 1⟩ }

/-- The permitted part with a live serial, and an order on the permit. -/
def offered (st : PermitState) (control field : Bool) (on : OrderState) : State :=
  { permitted st control field with
    pmt := ⟨[{ permit st control field with live := some 12 }], []⟩, wos := ⟨[order 1 on (some 30)], 2⟩ }

theorem test_meets_SuspendAndResumePermit_refusals :
    (misplaced.lineIdle ∧ misplaced.doublePollOk ∧ misplaced.permit? 30 = some (permit .suspended false false)
      ∧ (permit .suspended false false).points = [] ++ ⟨100, .opened⟩ :: []
      ∧ ∀ d, misplaced.device? 100 = some d → d.position ≠ .opened)
    ∧ (permit .active true true).state ≠ .suspended :=
  ⟨⟨lineIdle_of (by decide), settled_of (by decide), by decide, by decide, fun d hd => by
    cases (show some { device 100 [⟨30, 1000000⟩] none with position := .closed } = some d from hd); decide⟩, by decide⟩

/-- A PERMIT_ACCEPT: no record, no holder's, not matching, a repeat, and a first one with and without control. -/
theorem test_meets_PermitAccept :
    (running.permit? 30 = none ∧ ((offered .offered true false .gated).pmt.permits.map PermitRec.number).Nodup
      ∧ (offered .offered true false .gated).permit? 30 = some { permit .offered true false with live := some 12 }
      ∧ (permit .offered true false).holder = 5 ∧ (permit .offered true false).holder ≠ 7)
    ∧ ((1 = (permit .offered true false).points.length ∧ some 12 ≠ (none : Option Nat)) ∧ (2 ≠ (permit .draft false false).points.length))
    ∧ ((permit .offered true false).state = .offered ∧ (permit .suspended false false).field = false
      ∧ (permit .suspended false true).field = true ∧ (permit .offered true false).members.Nodup)
    ∧ ((offered .offered true false .gated).runState = .operating ∧ (offered .offered true false .gated).numbersOk
      ∧ (order 1 .gated (some 30)).permit = some 30 ∧ (order 1 .stopped (some 30)).state = .stopped) :=
  ⟨by decide, by decide, by decide, by decide, by unfold State.numbersOk; decide, by decide, by decide⟩

/-- The permitted part with its holder LOST. -/
def forsaken (alarms : List AlarmRec) : State :=
  { permitted .active true true with
    units := [unit 5 .lost, unit 7 .signedOff], als := ⟨alarms, 2, 60, false⟩
    psc := { running.psc with doublePoll := if alarms = [] then [] else [5] } }

theorem test_meets_CloseAPermit :
    ((permitted .surrenderPending true true).lineIdle
      ∧ ((permitted .surrenderPending true true).pmt.permits.map PermitRec.number).Nodup
      ∧ (permitted .surrenderPending true true).numbersOk
      ∧ (permitted .surrenderPending true true).permit? 30 = some (permit .surrenderPending true true)
      ∧ ∀ x ∈ (permitted .surrenderPending true true).als.alarms, x.unit ∉ (permit .surrenderPending true true).members)
    ∧ ((forsaken []).lineIdle ∧ (forsaken []).numbersOk ∧ (forsaken []).permit? 30 = some (permit .active true true)
      ∧ (forsaken []).unit? 5 = some (unit 5 .lost))
    ∧ ((forsaken [alarm 1 .raised .notWanted]).lineIdle ∧ (forsaken [alarm 1 .raised .notWanted]).doublePollOk
      ∧ (alarm 1 .raised .notWanted).unit ∈ (permit .active true true).members) :=
  ⟨⟨lineIdle_of (by decide), by decide, by unfold State.numbersOk; decide, by decide, by decide⟩,
    ⟨lineIdle_of (by decide), by unfold State.numbersOk; decide, by decide, by decide⟩, lineIdle_of (by decide),
    settled_of (by decide), by decide⟩

/-- The CLOSED notices of a close, at each boundary: a free slot, a signed-off member and a full outbox with room on the
closing list, and a full list. -/
theorem test_meets_ClosedNotices :
    ((permit .surrenderPending true true).members.Nodup
      ∧ (∀ a ∈ (permit .surrenderPending true true).members, ((permitted .surrenderPending true true).unit? a).isSome = true))
    ∧ ((unit 5 .inContact).contact ≠ .signedOff ∧ (unit 5 .inContact).outbox.length < 4)
    ∧ (¬ (unit 7 .signedOff).contact ≠ .signedOff ∧ running.pmt.closing.length < 96)
    ∧ ((List.replicate 4 prompt).length = 4
      ∧ 96 ≤ ({ running with pmt := ⟨[], List.replicate 96 ⟨1, 7, 0⟩⟩ } : State).pmt.closing.length) := by
  decide

/-- A PERMIT_SURRENDER: no record, ignored, repeated, refused for an alarm, for an order under way, and taken. -/
theorem test_meets_PermitSurrender :
    (running.permit? 30 = none ∧ (permit .offered true false).state = .offered ∧ (permit .active true true).holder ≠ 7
      ∧ (permit .surrenderPending true true).state = .surrenderPending)
    ∧ ([alarm 1 .raised .notWanted].filter (fun x => decide (x.unit ∈ (permit .active true true).members))
      = alarm 1 .raised .notWanted :: [])
    ∧ ((offered .active true true .working).als.alarms = []
      ∧ (offered .active true true .working).wos.orders.filter (fun o =>
        o.permit == some 30 && (o.state == .proceeding || o.state == .working)) = order 1 .working (some 30) :: [])
    ∧ (offered .active true true .enRoute).wos.orders.filter (fun o =>
        o.permit == some 30 && (o.state == .proceeding || o.state == .working)) = [] := by
  decide

theorem test_meets_GoOpensTheChannel :
    (loaded.lineIdle ∧ loaded.runState = .loading ∧ loaded.ale.rateTable ≠ [] ∧ loaded.ale.syncA.isSome = true
      ∧ loaded.ale.syncB.isSome = true ∧ loaded.loadingOk ∧ loaded.deadlinesOk ∧ loaded.rangesOk)
    ∧ (State.reset.lineIdle ∧ State.reset.doublePollOk ∧ State.reset.ale.rateTable = [])
    ∧ ({ loaded with ale := { loaded.ale with syncB := none } } : State).ale.syncB = none :=
  ⟨⟨line_loaded.1, rfl, by decide, rfl, rfl, by unfold State.loadingOk; decide, deadlines_of_none rfl (by decide),
    ranges_of rfl rfl rfl (by decide)⟩, ⟨lineIdle_of (by decide), settled_of (by decide), rfl⟩, rfl⟩

theorem test_meets_CycleStarts :
    running.lineIdle ∧ running.runState = .operating ∧ running.psc.cycleState = .openWindow
      ∧ running.psc.openEnd ≤ running.now ∧ running.psc.cycleNumber ≠ BitVec.allOnes 32 :=
  ⟨line_running.1, rfl, rfl, by decide, by decide⟩

/-- A pick from two candidates, an all-call and unit 5's prompt, with a budget; and the waits of the poll phase. -/
def picking (budget : Nat) : State :=
  { laden [prompt] with psc := { running.psc with broadcast := [⟨1, 1500001, false⟩], budgetLeft := budget } }

theorem test_meets_CycleStarts_picks :
    ((picking 62).psc.broadcast.map Candidate.call
        ++ (picking 62).units.flatMap (fun u => (u.outbox.filter (fun e => (picking 62).eligible u e)).map (Candidate.entry u))
      = [.call ⟨1, 1500001, false⟩] ++ .entry { unit 5 .inContact with outbox := [prompt], nextSerial := 9 } prompt :: [])
    ∧ (∀ x ∈ [Candidate.call ⟨1, 1500001, false⟩], x.cls < 3 ∨ (x.cls = 3 ∧ 1500000 < x.time))
    ∧ ((picking 0).psc.budgetLeft
      < (picking 0).ale.airtimeAt 40 (6 + (prompt.content.body prompt.serial).length) 0)
    ∧ ((picking 62).ale.airtimeAt 40 (6 + (prompt.content.body prompt.serial).length) 0 ≤ (picking 62).psc.budgetLeft)
    ∧ (running.psc.broadcast = [] ∧ ∀ u ∈ running.units, ∀ e ∈ u.outbox, running.eligible u e = false) := by
  decide

/-- The poll entries: void, of a unit signed off, fitting at the last moment, and one ms too late. -/
theorem test_meets_CycleStarts_polls :
    ((⟨5, 183, .home, true⟩ : PollEntry).void = true ∧ running.unit? 7 = some (unit 7 .signedOff)
      ∧ running.unit? 5 = some (unit 5 .inContact) ∧ (unit 5 .inContact).contact ≠ .signedOff)
    ∧ (running.now + (running.cycleWindow 0 + running.cycleOpen + ([] : List PollEntry).length)
      ≤ 2000000 + running.cycleWindow 0 + running.cycleOpen)
    ∧ (2000000 + running.cycleWindow 0 + running.cycleOpen - 1
      < running.now + (running.cycleWindow 0 + running.cycleOpen))
    ∧ (running.psc.probeCandidate = none
      ∧ ({ running with units := [unit 5 .lost] } : State).unit? 5 = some (unit 5 .lost)
      ∧ (unit 5 .inContact).contact ≠ .lost)
    ∧ ([5, 7].Pairwise (· < ·) ∧ (∃ b ∈ [5, 7], 5 < b) ∧ ∀ b ∈ [5, 7], b ≤ 7) := by
  decide

/-- The running part with its transmitter in a state, on a frame of 96 bits at 9,600 bit/s: KEYUP has lasted K, or the
last bit has just ended. -/
def keyed (tx : TxState) (purpose : TxPurpose) : State :=
  { running with
    ale := { running.ale with
      txState := tx, txFrame := some ⟨purpose, 5, 1, [0], 0, .a⟩
      pttTime := if tx = .keyup then 1999960 else 1999950 } }

/-- The part sending the prompt. -/
def prompting : State :=
  { keyed .sending (.entry 5) with
    units := [{ unit 5 .inContact with outbox := [prompt], nextSerial := 1 }, unit 7 .signedOff] }

/-- The part sending an all-call of alarm 1. -/
def calling (second : Bool) : State :=
  { alarmed .unanswered .onAir with
    ale := (keyed .sending (.allCall second)).ale
    psc := { (alarmed .unanswered .onAir).psc with broadcast := [⟨1, 1500000, true⟩] } }

theorem test_meets_TransmitterRows :
    ((keyed .keyup .poll).ale.txState = .keyup
      ∧ (keyed .keyup .poll).ale.pttTime + (keyed .keyup .poll).psc.cycle.k ≤ (keyed .keyup .poll).now)
    ∧ ((keyed .sending .poll).ale.txState = .sending
      ∧ (keyed .sending .poll).ale.txFrame = some ⟨.poll, 5, 1, [0], 0, .a⟩ ∧ running.ale.txState ≠ .sending
      ∧ ({ keyed .keyup .poll with clock := 1999999 } : State).now < 1999960 + 40)
    ∧ ((keyed .sending .poll).sendEnd ⟨.poll, 5, 1, [0], 0, .a⟩ = (keyed .sending .poll).now
      ∧ ({ keyed .sending .poll with clock := 1999999 } : State).now
        < ({ keyed .sending .poll with clock := 1999999 } : State).sendEnd ⟨.poll, 5, 1, [0], 0, .a⟩)
    ∧ ((keyed .sending .poll).ale.rateTable[0]? = some ⟨9600, 9, 4⟩ ∧ (keyed .sending .poll).ale.syncA = some 0x1ACF#16
      ∧ (airBits 0x1ACF#16 (⟨.poll, 5, 1, [0], 0, .a⟩ : TxFrame).bytes)[86]? = some true
      ∧ (86 * 1000 ≤ 9 * 9600 ∧ 9 * 9600 < 87 * 1000) ∧ (40 + 8 * (6 + 1)) * 1000 ≤ 10 * 9600)
    ∧ (prompting.ale.txState = .sending ∧ prompting.outboxesOk ∧ (unit 5 .inContact).addr = 5 ∧ prompt.onAir = true)
    ∧ ((calling true).ale.txState = .sending ∧ ∃ e ∈ (calling true).psc.broadcast, e.onAir = true)
    ∧ ((calling false).psc.broadcast.filter (·.onAir) = [⟨1, 1500000, true⟩]
      ∧ ((calling false).psc.broadcast.map CallEntry.alarm).Nodup
      ∧ ((calling false).als.alarms.map AlarmRec.id).Nodup) := by
  refine ⟨by decide, by decide, by decide, by decide, ⟨rfl, ?_, rfl, rfl⟩, by decide, by decide⟩
  unfold State.outboxesOk UnitRec.outboxOk
  decide

/-- The running part's receiver in a state, with carrier wait as given. -/
def hearing (rx : RxState) (wait : Bool) : State :=
  { running with ale := { running.ale with rxState := rx, carrierWait := wait } }

theorem test_meets_ReceiverRows :
    ((hearing .hunt false).ale.rxEnabled = true ∧ (hearing .hunt false).ale.txState = .idle
      ∧ (hearing .hunt true).ale.carrierWait = true)
    ∧ ((hearing (.measure 1) false).ale.rateTable = [⟨9600, 9, 4⟩, ⟨4800, 17, 8⟩] ∧ 3 < 4 ∧ 4 ≤ 9 ∧ 9 < 10 ∧ 10 ≤ 17 ∧ 17 < 18)
    ∧ ((hearing (.sync 1) false).ale.syncA = some 0x1ACF#16 ∧ (hearing (.sync 1) false).ale.syncB = some 0xE530#16
      ∧ (hearing (.sync 1) false).ale.syncA ≠ some 0#16 ∧ (hearing (.sync 1) false).ale.syncB ≠ some 0#16)
    ∧ ((hearing (.body 1 .home) false).ale.rxState = .body 1 .home ∧ 56 < (57 : Byte).toNat)
    ∧ loaded.ale.rxEnabled = false ∧ (keyed .keyup .poll).ale.txState ≠ .idle := by
  decide

/-- A sample at space, with carrier. -/
def space : Sample := ⟨true, false⟩

/-- The running part's receiver in a state, with bits taken, at its next bit, and a sample to come. -/
def sampling (rx : RxState) (bits : List Bool) (wait : Nat) (x : Sample) : State :=
  { hearing rx false with
    air := [x]
    ale := { (hearing rx false).ale with rxBits := bits, rxWait := wait } }

/-- The bits of a word, the most significant first. -/
def wordBits (w : Half) : List Bool := [15, 14, 13, 12, 11, 10, 9, 8, 7, 6, 5, 4, 3, 2, 1, 0].map (fun i => w.getLsbD i)

theorem test_meets_ReceiverRows_samples :
    ((sampling .hunt [] 0 mark).pending = [] ∧ (sampling .hunt [] 0 mark).air = mark :: []
      ∧ (sampling .hunt [] 0 mark).ale.rxEnabled = true ∧ (sampling .hunt [] 0 mark).ale.txState = .idle
      ∧ (sampling .hunt [] 0 mark).ale.lastSample = quiet)
    ∧ ((quiet.cd = false ∨ quiet.mark = false) ∧ (space.cd = false ∨ space.mark = false) ∧ space.cd = true
      ∧ (∀ e ∈ running.ale.rateTable, e.maxLen < 18) ∧ ∃ e ∈ running.ale.rateTable, 17 ≤ e.maxLen)
    ∧ ((sampling (.sync 1) [true] 2 mark).ale.rxWait = 2 ∧ (sampling (.sync 1) [true] 1 mark).ale.rxWait ≤ 1
      ∧ ([true] ++ [true]).length < 16)
    ∧ ((wordBits 0x1ACF#16).length = 16 ∧ (∀ i < 16, (wordBits 0x1ACF#16)[16 - 1 - i]? = some ((0x1ACF#16).getLsbD i))
      ∧ running.ale.syncA = some 0x1ACF#16 ∧ ¬ (running.ale.syncA = some 0#16 ∨ running.ale.syncB = some 0#16)
      ∧ (List.replicate 47 false ++ [false]).length = 48)
    ∧ (([0, 5, 0x41, 57] : List Byte).flatMap byteBits ++ []).length = 32
    ∧ (([0, 5, 0x41, 57] : List Byte)[3]? = some 57 ∧ 56 < (57 : Byte).toNat
      ∧ ([0, 5, 0x41, 0, 0, 0] : List Byte).length = (0 : Byte).toNat + 6
      ∧ ([0, 5, 0x41, 0, 0] : List Byte).length ≠ (0 : Byte).toNat + 6) := by
  decide

/-- One sample of each kind: a run begins, a bit completes the sync word of the base's own fleet, and a frame ends. -/
theorem test_samples_raise_their_rows :
    step (sampling .hunt [] 0 mark)
        = .next { running with ale := { running.ale with rxState := .measure 1, carrierWait := false, lastSample := mark } }
      ∧ (∃ t, step (sampling (.sync 1) (wordBits 0x1ACF#16).dropLast 1 mark) = .next t ∧ t.ale.rxState = .body 1 .home)
      ∧ ∃ t, step (sampling (.body 1 .home) (([0, 5, 0x41, 0, 0, 0] : List Byte).flatMap byteBits).dropLast 1 space)
        = .next t ∧ t.ale.counters.badCheck = 1 :=
  ⟨rfl, ⟨_, rfl, by decide⟩, _, rfl, by decide⟩

/-- An air frame from its destination to its second CRC byte. -/
def airFrame (dest source kind : Byte) (body : List Byte) : List Byte :=
  let head := [dest, source, kind, BitVec.ofNat 8 body.length] ++ body
  head ++ crcBytes head

theorem test_meets_FrameChecks :
    ((hearing (.body 1 .home) false).doublePollOk ∧ (hearing (.body 1 .home) false).ale.rxEnabled = true
      ∧ (hearing (.body 1 .home) false).ale.txState = .idle)
    ∧ airParts [0, 5, 0x41, 0, 0, 0] = some ⟨0, 5, 0x41, [], false⟩
    ∧ airParts (airFrame 1 5 0x41 []) = some ⟨1, 5, 0x41, [], true⟩
    ∧ airParts (airFrame 0 5 0x40 []) = some ⟨0, 5, 0x40, [], true⟩
    ∧ (airParts (airFrame 0 5 0x42 [6, 3]) = some ⟨0, 5, 0x42, [6, 3], true⟩
      ∧ (⟨0, 5, 0x42, [6, 3], true⟩ : AirParts).fit = .badKind)
    ∧ (airParts (airFrame 0 5 0x41 [0]) = some ⟨0, 5, 0x41, [0], true⟩
      ∧ (⟨0, 5, 0x41, [0], true⟩ : AirParts).fit = .badLength)
    ∧ (airParts (airFrame 0 6 0x42 [5, 4]) = some ⟨0, 6, 0x42, [5, 4], true⟩
      ∧ (⟨0, 6, 0x42, [5, 4], true⟩ : AirParts).fit = .fits (.alert 5 .panic) ∧ running.unit? 6 = none)
    ∧ (unit 5 .inContact).fleet ≠ .visiting :=
  ⟨⟨settled_of (by decide), rfl, rfl⟩, by decide, by decide, by decide, by decide, by decide, by decide, by decide⟩

theorem test_meets_ValidFrames :
    ((hearing (.body 1 .home) false).doublePollOk ∧ (hearing (.body 1 .home) false).ale.rxEnabled = true
      ∧ (hearing (.body 1 .home) false).ale.txState = .idle
      ∧ (hearing (.body 1 .home) false).unit? 7 = some (unit 7 .signedOff)
      ∧ (hearing (.body 1 .home) false).unit? 5 = some (unit 5 .inContact)
      ∧ ((hearing (.body 1 .home) false).units.map UnitRec.addr).Nodup)
    ∧ (airParts (airFrame 0 7 0x42 [0, 3]) = some ⟨0, 7, 0x42, [0, 3], true⟩
      ∧ (⟨0, 7, 0x42, [0, 3], true⟩ : AirParts).fit = .fits (.alert 0 .manDown))
    ∧ (airParts (airFrame 0 5 0x41 [0, 0]) = some ⟨0, 5, 0x41, [0, 0], true⟩
      ∧ (⟨0, 5, 0x41, [0, 0], true⟩ : AirParts).fit = .fits (.reply 0 [] [])) :=
  ⟨⟨settled_of (by decide), rfl, rfl, by decide, by decide, by decide⟩, by decide, by decide⟩

/-- The part after a poll of unit 5 whose outbox holds entries, with the keys of the table. -/
def answering (entries : List Entry) : State :=
  { laden entries with keys := keyTable, psc := { running.psc with polled := [5] } }

/-- The matching REPLY, a REPLY that matches nothing, and a key that signs its unit off. -/
theorem test_meets_ValidFrames_replies :
    (5 ∈ (answering []).psc.polled ∧ 5 ∉ (answering []).psc.matched ∧ 5 ∉ running.psc.polled)
    ∧ (let heard := (answering []).heardFrame 5 1 2000000;
      (((heard.takeReply 5 [] 2000000).statusKey 5 255 2000000).unit? 5).map UnitRec.contact = some .signedOff
        ∧ (((heard.takeReply 5 [] 2000000).statusKey 5 3 2000000).unit? 5).map UnitRec.contact = some .inContact) := by
  decide

/-- The entry a matching REPLY resolves: acknowledged, one retry down, given up, or told and refreshed. -/
theorem test_meets_ValidFrames_entries :
    (let u : UnitRec := { unit 5 .inContact with outbox := [orderEntry, stepEntry], nextSerial := 9 };
      (answering [orderEntry, stepEntry]).unit? 5 = some u ∧ (u.outbox.map Entry.serial).Nodup ∧ orderEntry ∈ u.outbox
        ∧ orderEntry.awaiting = true ∧ orderEntry.serial ∈ (answering [orderEntry, stepEntry]).awaitingSerials 5)
    ∧ (orderEntry.content = .orderNotice 1 .stop ∧ Item.frameAck 7 ∈ [Item.frameAck orderEntry.serial]
      ∧ Item.frameAck orderEntry.serial ∉ [Item.frameAck 8] ∧ stepEntry.content = .step 1 100 .open_)
    ∧ (1 < orderEntry.retries ∧ ({ orderEntry with retries := 1 } : Entry).retries ≤ 1 ∧ 3 ≤ orderEntry.cls
      ∧ stepEntry.cls < 3) := by
  decide

/-- The running part with a poll window of unit 5 open. -/
def polling (probe : Bool) (replied : Option Millis) (began : Millis) (c : Contact) : State :=
  { running with
    units := [{ unit 5 c with budget := 1 }, unit 7 .signedOff]
    psc := { running.psc with
      cycleState := if probe then .probe else .poll, window := some ⟨5, probe, began, 183, replied, false⟩, polled := [5] } }

theorem test_meets_PollWindowEnd :
    ((polling false none 1999817 .late).ale.txState = .idle ∧ ((polling false none 1999817 .late).units.map UnitRec.addr).Nodup
      ∧ 1999817 + 183 ≤ (polling false none 1999817 .late).now ∧ (polling false none 1999818 .late).now < 1999818 + 183)
    ∧ min (1999900 + 183) (1999970 + (polling false (some 1999970) 1999900 .late).psc.cycle.t)
      ≤ (polling false (some 1999970) 1999900 .late).now
    ∧ (∃ w, (polling true none 1999817 .lost).psc.window = some w ∧ w.probe = true) :=
  ⟨by decide, by decide, _, rfl, rfl⟩

/-- A demand of an order that waits. -/
def demand (h : Nat) : Demand := ⟨.order h, .orderNotice h .stop, 3, false, 1500000⟩

/-- The running part with five demands waiting for unit 5, and an all-call waiting. -/
def waiting : State :=
  { alarmed .unanswered (.waiting 1500000) with
    units := [{ unit 5 .inContact with waiting := [demand 1, demand 2, demand 3, demand 4, demand 5] }, unit 7 .signedOff] }

theorem test_meets_DemandAdmission :
    (5 ≠ 0 ∧ waiting.outboxesOk ∧ (waiting.unit? 5).isSome = true ∧ waiting.unit? 7 = some (unit 7 .signedOff)
      ∧ waiting.unit? 6 = none)
    ∧ (waiting.als.alarms.map AlarmRec.id).Nodup ∧ waiting.psc.broadcast.length ≤ 2 := by
  refine ⟨⟨by decide, ?_, by decide, by decide, by decide⟩, by decide, by decide⟩
  unfold State.outboxesOk UnitRec.outboxOk
  decide

/-- Four of the five demands are admitted, with the serials 0 to 3, and the fifth still waits. -/
theorem test_demands_are_admitted :
    ∃ t, exec (.demandAdmission 5) waiting = .next t
      ∧ (t.unit? 5).map (fun u => (u.outbox.map Entry.serial, u.nextSerial, u.waiting)) = some ([0, 1, 2, 3], 4, [demand 5]) :=
  ⟨_, rfl, by decide⟩

theorem test_meets_WorkerFallsDue :
    (crewed .ok).worker? 9 = some (worker 9 5 .ok) ∧ (worker 9 5 .ok).deadline = some 1900000
      ∧ ((crewed .ok).lwm.workers.map WorkerRec.id).Nodup ∧ 1900000 ≤ (crewed .ok).now
      ∧ ({ crewed .ok with clock := 1899999 } : State).now < 1900000 := by
  decide

/-- A check-in in each state of a worker, before and at the deadline it sets. -/
theorem test_meets_CheckIn :
    ((crewed .ok).worker? 9 = some (worker 9 5 .ok) ∧ ((crewed .ok).lwm.workers.map WorkerRec.id).Nodup
      ∧ (crewed .ok).now < max ((worker 9 5 .ok).lastCheckin.getD 0) 1100001 + 1000 * 900
      ∧ max ((worker 9 5 .ok).lastCheckin.getD 0) 1100000 + 1000 * 900 ≤ (crewed .ok).now)
    ∧ ((crewed .due).worker? 9 = some (worker 9 5 .due) ∧ (crewed .prealert).worker? 9 = some (worker 9 5 .prealert))
    ∧ ((crewed .alarm).worker? 9 = some (worker 9 5 .alarm) ∧ (worker 9 5 .alarm).alarmReported = false
      ∧ ({ worker 9 5 .alarm with alarmReported := true } : WorkerRec).alarmReported = true) := by
  decide

/-- A worker report: no worker in the slot, a worker INACTIVE, and a fresh or repeated condition. -/
theorem test_meets_WorkerReport :
    (∀ w ∈ (crewed .ok).lwm.workers, ¬ (w.unit = 5 ∧ w.slot = 1))
    ∧ (worker 9 5 .ok ∈ (crewed .ok).lwm.workers ∧ (worker 9 5 .ok).unit = 5 ∧ (worker 9 5 .ok).slot = 0
      ∧ ∀ x ∈ (crewed .ok).lwm.workers, x.unit = 5 → x.slot = 0 → x = worker 9 5 .ok)
    ∧ ((worker 9 5 .ok).lastCondition ≠ some .manDown
      ∧ ({ worker 9 5 .ok with lastCondition := some .noTag } : WorkerRec).lastCondition = some .noTag)
    ∧ ((worker 9 5 .inactive).state = .inactive ∧ worker 9 5 .inactive ∈ (crewed .inactive).lwm.workers)
    ∧ ((crewed .ok).unit? 5).isSome = true := by
  decide

theorem test_meets_WindowsOpenAlarms :
    ((crewed .due).alarmsOk ∧ (crewed .due).worker? 9 = some (worker 9 5 .due)
      ∧ (worker 9 5 .due).windowEnd = some 2000000 ∧ 2000000 ≤ (crewed .due).now)
    ∧ (crewed .prealert).alarmsOk ∧ (crewed .prealert).worker? 9 = some (worker 9 5 .prealert)
      ∧ (worker 9 5 .prealert).windowEnd = some 2000000 := by
  refine ⟨⟨?_, by decide, by decide, by decide⟩, ?_, by decide, by decide⟩ <;>
    unfold State.alarmsOk State.loadingOk <;> decide

/-- A cause handed for a worker with no open alarm, and for one whose alarm is RAISED or RESPONDING. -/
theorem test_meets_CauseHanded :
    ((crewed .ok).alarmsOk ∧ (crewed .ok).worker? 9 = some (worker 9 5 .ok) ∧ ∀ r ∈ (crewed .ok).als.alarms, r.worker ≠ 9)
    ∧ ((alarmed .responding .notWanted).worker? 9 = some (worker 9 5 .alarm)
      ∧ (alarmed .responding .notWanted).als.alarms = [] ++ alarm 1 .responding .notWanted :: []
      ∧ (alarm 1 .responding .notWanted).worker = 9 ∧ ((alarmed .responding .notWanted).als.alarms.map AlarmRec.id).Nodup
      ∧ (alarm 1 .raised .notWanted).stage ≠ .responding) :=
  ⟨⟨by unfold State.alarmsOk State.loadingOk; decide, by decide, by decide⟩, by decide⟩

theorem test_meets_RaisedWindowEnd :
    ((alarmed .raised .notWanted).als.alarms.map AlarmRec.id).Nodup ∧ (alarmed .raised .notWanted).doublePollOk
      ∧ (alarmed .raised .notWanted).alarm? 1 = some (alarm 1 .raised .notWanted)
      ∧ (alarm 1 .raised .notWanted).windowEnd = some 2000000
      ∧ 2000000 ≤ (alarmed .raised .notWanted).now
      ∧ ({ alarmed .raised .notWanted with clock := 1999999 } : State).now < 2000000 :=
  ⟨by decide, settled_of (by decide), by decide, by decide, by decide, by decide⟩

theorem test_meets_UnansweredWindowEnd :
    ((alarmed .unanswered .notWanted).als.alarms.map AlarmRec.id).Nodup ∧ (alarmed .unanswered .notWanted).doublePollOk
      ∧ (alarmed .unanswered .notWanted).alarm? 1 = some (alarm 1 .unanswered .notWanted)
      ∧ (alarm 1 .unanswered .notWanted).windowEnd = some 2000000 ∧ 2000000 ≤ (alarmed .unanswered .notWanted).now
      ∧ (alarmed .unanswered .onAir).doublePollOk ∧ (alarm 1 .unanswered .onAir).allCall ≠ .notWanted
      ∧ ({ alarmed .unanswered .queued with clock := 1999999 } : State).now < 2000000 :=
  ⟨by decide, settled_of (by decide), by decide, by decide, by decide, settled_of (by decide), by decide, by decide⟩

theorem test_meets_FrameOfEveryCommand :
    (Instr.siteClockTick.carries = false ∧ running.clp.orderOk ∧ ∃ t, exec .siteClockTick running = .next t)
      ∧ (∃ t, exec .replySent (busy 1 0) = .next t)
      ∧ ∃ t, exec (.requestFrameArrived (requestFrame 3 .queryPart)) taking = .next t :=
  ⟨⟨rfl, by unfold Clp.orderOk; decide, _, rfl⟩, ⟨_, rfl⟩, _, rfl⟩

theorem test_meets_DoublePollKept :
    (alarmed .raised .notWanted).doublePollOk ∧ ∃ t, step (alarmed .raised .notWanted) = .next t :=
  ⟨settled_of (by decide), _, rfl⟩

/-- The crewed part with the estimate its roster gives, its next command waiting. -/
def estimated : State :=
  { crewed .ok with
    psc := { running.psc with estimate := (crewed .ok).estimateNow }
    lwm := { (crewed .ok).lwm with estimate := (crewed .ok).estimateNow }
    pending := [.siteClockTick] }

theorem test_meets_EstimateKept : estimated.estimateOk ∧ ∃ t, step estimated = .next t :=
  ⟨by unfold State.estimateOk State.loadingOk; decide, _, rfl⟩

theorem test_meets_DeadlinesKept : (crewed .ok).deadlinesOk ∧ ∃ t, step (crewed .ok) = .next t :=
  ⟨deadlines_crewed, _, rfl⟩

theorem test_meets_AlarmsKept :
    (alarmed .unanswered .notWanted).alarmsOk ∧ ∃ t, step (alarmed .unanswered .notWanted) = .next t :=
  ⟨by unfold State.alarmsOk State.loadingOk; decide, _, rfl⟩

theorem test_meets_PermitsKept :
    (permitted .active true true).permitsOk ∧ ∃ t, step (permitted .active true true) = .next t :=
  ⟨by unfold State.permitsOk; decide, _, rfl⟩

/-- A working order under its ACTIVE permit. -/
def gated : State := { permitted .active true true with wos := ⟨[order 1 .working (some 30)], 2⟩ }

theorem test_meets_GateKept : gated.gateOk ∧ ∃ t, step gated = .next t := by
  refine ⟨⟨by unfold State.outboxesOk UnitRec.outboxOk; decide, by unfold State.numbersOk; decide, by decide, ?_, by decide,
    ?_⟩, _, rfl⟩
  · intro u hu src h hh
    have hu' : u = unit 5 .inContact ∨ u = unit 7 .signedOff := by simpa [gated, permitted, running] using hu
    rcases hu' with rfl | rfl <;> simp [unit] at hh
  · intro o ho n hn
    have h : o = order 1 .working (some 30) := by simpa [gated] using ho
    subst h
    have h30 : n = 30 := by simpa [order] using hn.symm
    subst h30
    exact ⟨by decide, permit .active true true, by decide, by decide, by decide, by decide⟩

theorem test_meets_HazardsKept : gated.hazardsOk ∧ ∃ t, step gated = .next t :=
  ⟨by unfold State.hazardsOk State.numbersOk; decide, _, rfl⟩

theorem test_meets_OutboxesKept : prompting.outboxesOk ∧ ∃ t, step prompting = .next t :=
  ⟨by unfold State.outboxesOk UnitRec.outboxOk; decide, _, rfl⟩

theorem test_meets_RangesKept : running.rangesOk ∧ ∃ t, step running = .next t :=
  ⟨ranges_of rfl rfl rfl (by decide), _, rfl⟩

/-! ## The refusals, clause by clause, at the ends of their ranges -/

/-- A state whose line is idle and whose double-poll set is settled. -/
theorem ready_of {s : State} (h : (s.clp = Clp.reset 38400 ∧ s.resetAsserted = false) ∧ s.changedUnit? = none) :
    s.lineIdle ∧ s.doublePollOk :=
  ⟨lineIdle_of h.1, settled_of h.2⟩

/-- The running part with all 48 records of units. -/
def crowded : State := { running with units := (List.range 48).map (fun i => unit (i + 1) .lost) }

/-- DEFINE UNIT: each field at the ends of its range, the class with and without a rate table, EXISTS and FULL. -/
theorem test_meets_DefineAndRemoveUnit_refusals :
    (crowded.lineIdle ∧ crowded.doublePollOk)
    ∧ (¬ within 1 239 0 ∧ ¬ within 1 239 240 ∧ ¬ within 1 2 0 ∧ ¬ within 1 2 3 ∧ ¬ within 1 8 0 ∧ ¬ within 1 8 9
      ∧ ¬ within 32 126 31 ∧ ¬ within 32 126 127)
    ∧ (State.reset.ale.rateTable = [] ∧ ¬ 6 ≤ 5 ∧ ¬ (running.ale.rateTable = [] ∨ 2 < running.ale.rateTable.length))
    ∧ ((crowded.unit? 48).isSome = true ∧ crowded.unit? 49 = none ∧ 48 ≤ crowded.units.length) :=
  ⟨ready_of (by decide), by unfold within; decide, by decide, by decide⟩

/-- REMOVE UNIT: a worker, an order, a step and a permit, each with none of the earlier ones. -/
theorem test_meets_DefineAndRemoveUnit_references :
    ((crewed .ok).lineIdle ∧ (ordered .posted none).lineIdle ∧ (stepping .sent).lineIdle ∧ (permitted .draft false false).lineIdle)
    ∧ ((∃ w ∈ (crewed .ok).lwm.workers, w.unit = 5) ∧ (crewed .ok).unit? 6 = none)
    ∧ ((ordered .posted none).lwm.workers = [] ∧ ∃ o ∈ (ordered .posted none).wos.orders, o.unit = 5)
    ∧ ((stepping .sent).lwm.workers = [] ∧ (stepping .sent).wos.orders = [] ∧ ∃ x ∈ (stepping .sent).swr.steps, x.unit = 5)
    ∧ ((permitted .draft false false).lwm.workers = [] ∧ (permitted .draft false false).wos.orders = []
      ∧ (permitted .draft false false).swr.steps = [] ∧ ∃ p ∈ (permitted .draft false false).pmt.permits, 7 ∈ p.members) :=
  ⟨⟨lineIdle_of (by decide), lineIdle_of (by decide), lineIdle_of (by decide), lineIdle_of (by decide)⟩, by decide⟩

/-- The running part with n workers, six to a unit from unit 5 on. -/
def manned (n : Nat) : State :=
  { running with lwm := { Lwm.reset with workers := (List.range n).map (fun i => worker (i + 1) (5 + i / 6) .ok) } }

/-- The worker requests: the ends of the ranges, EXISTS, a full crew, a full collection, and each state that stays. -/
theorem test_meets_DefineMoveAndRemoveWorker_refusals :
    ((manned 6).lineIdle ∧ (manned 6).doublePollOk)
    ∧ (¬ within 1 65535 0 ∧ ¬ within 1 65535 65536 ∧ ¬ within 1 239 0 ∧ ¬ within 1 239 240)
    ∧ ((manned 6).unit? 6 = none ∧ ((manned 6).worker? 6).isSome = true ∧ (manned 6).worker? 7 = none
      ∧ 6 ≤ ((manned 6).workersOf 5).length ∧ ((manned 5).workersOf 5).length < 6)
    ∧ (64 ≤ (manned 64).lwm.workers.length ∧ (manned 64).worker? 65 = none)
    ∧ ((worker 9 5 .due).state = .due ∧ (worker 9 5 .prealert).state = .prealert ∧ (worker 9 5 .alarm).state = .alarm)
    ∧ ((worker 9 7 .ok).state = .ok ∧ (worker 9 7 .ok).unit ≠ 5) :=
  ⟨ready_of (by decide), by unfold within; decide, by decide⟩

/-- POST ORDER: the ends of the ranges, the starting states, EXISTS, the permit, and 96 records. -/
theorem test_meets_PostOrder_refusals :
    ((ordered .posted none).lineIdle ∧ (ordered .posted none).doublePollOk)
    ∧ (¬ within 1 239 0 ∧ ¬ within 1 239 240 ∧ ¬ within 1 3 0 ∧ ¬ within 1 3 4 ∧ ¬ within 1 4 0 ∧ ¬ within 1 4 5
      ∧ ¬ within 1 240 0 ∧ ¬ within 1 240 241)
    ∧ ((5 < 6 ∧ 2 ≤ 2 ∧ 1 ≤ 1) ∧ (ordered .posted none).runState = .operating ∧ loaded.runState = .loading)
    ∧ ((ordered .posted none).unit? 6 = none ∧ ((ordered .posted none).unit? 5).isSome = true
      ∧ ((ordered .posted none).orderNumbered? 1001).isSome = true ∧ (ordered .posted none).orderNumbered? 1002 = none)
    ∧ ((ordered .posted none).permit? 31 = none ∧ (ordered .posted none).permit? 30 = some (permit .suspended false false)
      ∧ 6 ∉ (permit .suspended false false).members ∧ 7 ∈ (permit .suspended false false).members)
    ∧ 96 ≤ (List.replicate 96 (order 1 .posted none)).length :=
  ⟨ready_of (by decide), by unfold within; decide, by decide⟩

/-- RECALL ORDER and RELINK ORDER: no order, an order not BLOCKED, no permit, and a permit its unit is no member of. -/
theorem test_meets_RecallAndRelinkOrder_refusals :
    ((ordered .blocked none).lineIdle ∧ (ordered .blocked none).doublePollOk)
    ∧ ((ordered .blocked none).orderNumbered? 1002 = none
      ∧ (ordered .working none).orderNumbered? 1001 = some (order 1 .working none) ∧ (order 1 .working none).state ≠ .blocked
      ∧ (ordered .blocked none).orderNumbered? 1001 = some (order 1 .blocked none) ∧ (order 1 .blocked none).state = .blocked
      ∧ (ordered .blocked none).permit? 31 = none
      ∧ 5 ∉ ({ permit .suspended false false with holder := 6 } : PermitRec).members) :=
  ⟨ready_of (by decide), by decide⟩

/-- The running part with an order of 41 bytes and, behind it, two POSTED ones, the later the more pressing. -/
def backlog : State :=
  { running with wos := ⟨[{ order 1 .sending none with text := List.replicate 41 65 }, order 2 .posted none,
      { order 3 .posted none with priority := .emergency }], 4⟩ }

/-- A segment of order 1 in an outbox, and a PROCEED and a RECALL of it. -/
def segmentEntry (i : Nat) : Entry := ⟨.order 1, .segment 1 i 2 [65], 3, false, 7, 1500000, 4, true, false⟩

def noticeEntry (n : OrderNotice) : Entry := ⟨.order 1, .orderNotice 1 n, 3, false, 7, 1500000, 4, true, false⟩

/-- What is told of an order's frame: a segment with one to come, the last one with the next order, and each notice. -/
theorem test_meets_RecallAndRelinkOrder_outcomes :
    ((segmentEntry 0).source = .order 1 ∧ (segmentEntry 0).content = .segment 1 0 2 [65]
      ∧ (∃ o, backlog.order? 1 = some o ∧ o.state = .sending ∧ o.stopOut = false ∧ 0 + 1 < (o.text.length + 39) / 40
        ∧ (o.text.length + 39) / 40 ≤ 1 + 1)
      ∧ (backlog.wos.orders.map OrderRec.handle).Nodup)
    ∧ (backlog.unit? 5 = some (unit 5 .inContact)
      ∧ (∀ x ∈ backlog.wos.orders, x.unit = 5 → x.handle ≠ 1 → x.state ≠ .sending)
      ∧ backlog.wos.orders.filter (fun x => x.unit == 5 && x.state == .posted)
        = [order 2 .posted none] ++ { order 3 .posted none with priority := .emergency } :: []
      ∧ (order 2 .posted none).priority.code < Priority.emergency.code)
    ∧ ((noticeEntry .proceed).content = .orderNotice 1 .proceed
      ∧ (ordered .proceeding none).order? 1 = some (order 1 .proceeding none) ∧ (order 1 .proceeding none).stopOut = false)
    ∧ ((noticeEntry .stop).content = .orderNotice 1 .stop ∧ (ordered .stopped none).order? 1 = some (order 1 .stopped none)
      ∧ (ordered .sending none).order? 1 = some (order 1 .sending none) ∧ (noticeEntry .recall).content = .orderNotice 1 .recall
      ∧ (ordered .recalling none).order? 1 = some (order 1 .recalling none)) := by
  decide

/-- ACK ALARM and RESOLVE ALARM: the ends of the ranges and an id that is not open. -/
theorem test_meets_AckAndResolveAlarm_refusals :
    (running.lineIdle ∧ running.doublePollOk) ∧ running.runState = .operating
    ∧ (¬ within 1 65535 0 ∧ ¬ within 1 65535 65536 ∧ ¬ within 1 255 0 ∧ ¬ within 1 255 256)
    ∧ running.alarm? 1 = none :=
  ⟨line_running, rfl, by unfold within; decide, by decide⟩

/-- The running part with all 128 devices. -/
def wired : State :=
  { running with swr := ⟨(List.range 128).map (fun i => device (i + 1) [] none), [], 1⟩ }

/-- DEFINE DEVICE and SET POSITION: the ends of the ranges, EXISTS, NOT_FOUND and 128 records. -/
theorem test_meets_DefineDeviceAndSetPosition_refusals :
    (wired.lineIdle ∧ wired.doublePollOk)
    ∧ (¬ within 1 65535 0 ∧ ¬ within 1 65535 65536 ∧ ¬ within 1 2 0 ∧ ¬ within 1 2 3 ∧ ¬ within 1 3 0 ∧ ¬ within 1 3 4
      ∧ ¬ within 32 126 31 ∧ ¬ within 32 126 127)
    ∧ (¬ (List.replicate 13 (65 : Byte)).length ≤ 12 ∧ (List.replicate 12 (65 : Byte)).length ≤ 12)
    ∧ ((wired.device? 128).isSome = true ∧ wired.device? 129 = none ∧ 128 ≤ wired.swr.devices.length) :=
  ⟨ready_of (by decide), by unfold within; decide, by decide, by decide⟩

/-- The running part with a device and 32 steps of other devices. -/
def queuedUp : State :=
  { running with swr := ⟨[device 100 [] none], (List.range 32).map (fun i => { switchStep (i + 1) .queued with device := 101 + i }), 33⟩ }

/-- QUEUE STEP: the ends of the ranges, the records it names, a pending step, a unit signed off, and 32 records. -/
theorem test_meets_QueueStep_refusals :
    (queuedUp.lineIdle ∧ queuedUp.doublePollOk) ∧ queuedUp.runState = .operating
    ∧ (¬ within 1 65535 0 ∧ ¬ within 1 65535 65536 ∧ ¬ within 1 2 0 ∧ ¬ within 1 2 3 ∧ ¬ within 1 239 0 ∧ ¬ within 1 239 240)
    ∧ (queuedUp.device? 99 = none ∧ queuedUp.device? 100 = some (device 100 [] none) ∧ queuedUp.unit? 6 = none
      ∧ queuedUp.unit? 5 = some (unit 5 .inContact) ∧ queuedUp.unit? 7 = some (unit 7 .signedOff))
    ∧ ((stepping .sent).lineIdle ∧ (device 100 [] (some 1)).pendingStep = some 1
      ∧ (stepping .sent).step? 1 = some (switchStep 1 .sent))
    ∧ ((device 100 [] none).pendingStep = none ∧ (device 100 [] none).tags = []
      ∧ (if 1 = 1 then Position.opened else Position.closed) = (device 100 [⟨30, 1000000⟩] none).kind.held
      ∧ 32 ≤ queuedUp.swr.steps.length) :=
  ⟨ready_of (by decide), rfl, by unfold within; decide, by decide, ⟨lineIdle_of (by decide), by decide⟩, by decide⟩

/-- CONFIRM STEP and ABORT STEP: the ends of the range, no step, and a step not READ_BACK; and what is told of a STEP and
a STEP_GO, of a device with and without tags. -/
theorem test_meets_ConfirmAndAbortStep_outcomes :
    ((stepping .sent).lineIdle ∧ (stepping .sent).doublePollOk) ∧ (stepping .sent).runState = .operating
    ∧ (¬ within 1 255 0 ∧ ¬ within 1 255 256 ∧ within 1 255 255)
    ∧ ((stepping .sent).step? 2 = none ∧ (stepping .sent).step? 1 = some (switchStep 1 .sent)
      ∧ (switchStep 1 .sent).state ≠ .readBack ∧ (stepping .sent).device? 100 = some (device 100 [] (some 1)))
    ∧ (stepEntry.source = .step 1 ∧ stepEntry.content = .step 1 100 .open_)
    ∧ ((tagged .confirmed).step? 1 = some (switchStep 1 .confirmed) ∧ (switchStep 1 .confirmed).state = .confirmed
      ∧ (device 100 [⟨30, 1000000⟩] (some 1)).tags ≠ []) :=
  ⟨ready_of (by decide), rfl, by unfold within; decide, by decide, by decide⟩

/-- The fields of a permit's definition: each list at the entry that fails. -/
theorem test_meets_DefineAndRestorePermit_fields :
    (devices.lineIdle ∧ devices.doublePollOk ∧ devices.runState = .loading)
    ∧ (¬ within 1 65535 0 ∧ ¬ within 1 65535 65536 ∧ ¬ within 1 239 0 ∧ ¬ within 1 239 240 ∧ ¬ within 1 8 0 ∧ ¬ within 1 8 9
      ∧ ¬ within 1 2 0 ∧ ¬ within 1 2 3 ∧ within 1 2 1 ∧ within 1 2 2)
    ∧ (3 < [7, 8, 9, 10].length ∧ [7, 0] = [7] ++ 0 :: [] ∧ [7, 5] = [7] ++ 5 :: [] ∧ (5 :: [7]).Nodup ∧ 5 ∈ 5 :: [7])
    ∧ ([⟨100, 1⟩, ⟨100, 2⟩] = [⟨100, 1⟩] ++ (⟨100, 2⟩ : PointArg) :: [] ∧ 100 ∈ [(⟨100, 1⟩ : PointArg)].map PointArg.device) :=
  ⟨⟨(ready_of (s := devices) (by decide)).1, settled_of (by decide), rfl⟩, by unfold within; decide, by decide, by decide⟩

/-- The loaded part with a ground switch beside the isolator, and unit 5 of a fleet. -/
def yard (f : Fleet) : State :=
  { loaded with
    units := [{ unit 5 .neverHeard with fleet := f }, unit 7 .signedOff]
    swr := ⟨[device 100 [] none, { device 101 [] none with kind := .ground, position := .closed }], [], 1⟩ }

/-- The checks behind the fields: EXISTS, each record missing, a VISITING holder, a wrong position, no isolator, FULL. -/
theorem test_meets_DefineAndRestorePermit_refusals :
    (PermitFields permitArg ∧ PermitFields { permitArg with points := [⟨101, 2⟩] })
    ∧ (((permitted .draft false false).permit? 30).isSome = true ∧ (yard .home).permit? 30 = none)
    ∧ ([5, 7] = [5] ++ 7 :: [] ∧ (yard .home).unit? 6 = none ∧ (∀ a ∈ [5, 7], ((yard .home).unit? a).isSome = true)
      ∧ (yard .home).device? 102 = none ∧ ∀ q ∈ permitArg.points, ((yard .home).device? q.device).isSome = true)
    ∧ (∃ u, (yard .visiting).unit? 5 = some u ∧ u.fleet = .visiting)
    ∧ ((∃ d, (yard .home).device? 100 = some d ∧ (pointOf ⟨100, 1⟩).position = d.kind.held ∧ (pointOf ⟨100, 2⟩).position ≠ d.kind.held
        ∧ d.kind = .isolator)
      ∧ ∃ d, (yard .home).device? 101 = some d ∧ (pointOf ⟨101, 2⟩).position = d.kind.held ∧ d.kind ≠ .isolator)
    ∧ 24 ≤ (List.replicate 24 (permit .draft false false)).length :=
  ⟨⟨by unfold PermitFields within; decide, by unfold PermitFields within; decide⟩, by decide, by decide,
    ⟨_, rfl, by decide⟩, ⟨⟨_, rfl, by decide⟩, _, rfl, by decide⟩, by decide⟩

/-- The points of ISSUE PERMIT and RESTORE PERMIT: no device, a wrong position, a pending step, and four tags. -/
theorem test_meets_IssueAndWithdrawPermit_refusals :
    ((permitted .draft false false).lineIdle ∧ (permitted .draft false false).doublePollOk)
    ∧ ((permitted .draft false false).permit? 31 = none
      ∧ (permitted .active true true).permit? 30 = some (permit .active true true)
      ∧ (permit .active true true).state ≠ .draft ∧ (permit .active true true).state ≠ .offered)
    ∧ ((permit .draft false false).points = [] ++ ⟨100, .opened⟩ :: [] ∧ running.device? 100 = none
      ∧ (device 100 [] none).position = .opened ∧ misplaced.device? 100 ≠ none)
    ∧ ((stepping .sent).device? 100 = some (device 100 [] (some 1)) ∧ (stepping .sent).step? 1 = some (switchStep 1 .sent))
    ∧ 4 ≤ (device 100 [⟨1, 0⟩, ⟨2, 0⟩, ⟨3, 0⟩, ⟨4, 0⟩] none).tags.length :=
  ⟨ready_of (by decide), by decide⟩

/-- An offer and a notice of permit 30 in an outbox, and a notice of the closing list. -/
def offerEntry : Entry := ⟨.permit 30, .permitOffer 30 .holder [⟨100, .opened⟩], 2, false, 7, 1500000, 4, true, false⟩

def permitEntry : Entry := ⟨.permit 30, .permitNotice 30 .suspended, 3, false, 7, 1500000, 4, true, false⟩

/-- The permit requests on no record and in a state that does not allow them, and what is told of a permit's frames. -/
theorem test_meets_SuspendAndResumePermit_outcomes :
    (running.lineIdle ∧ running.doublePollOk ∧ running.permit? 30 = none)
    ∧ ((permitted .draft false false).lineIdle ∧ (permitted .draft false false).permit? 30 = some (permit .draft false false)
      ∧ (permit .draft false false).state = .draft ∧ (permit .offered true false).state = .offered)
    ∧ (offerEntry.source = .permit 30 ∧ offerEntry.content = .permitOffer 30 .holder [⟨100, .opened⟩]
      ∧ permitEntry.source = .permit 30 ∧ permitEntry.content = .permitNotice 30 .suspended) :=
  ⟨⟨line_running.1, line_running.2, by decide⟩, ⟨lineIdle_of (by decide), by decide⟩, by decide⟩

/-- The running part with its holder LOST or not and an alarm of a member, under a permit in a state. -/
def closingWith (st : PermitState) (c : Contact) : State :=
  { forsaken [alarm 1 .raised .notWanted] with
    units := [unit 5 c, unit 7 .signedOff], pmt := ⟨[permit st true true], []⟩ }

/-- CONFIRM SURRENDER and FORCE CANCEL: the alarm named, a state that does not allow them, a holder not LOST. -/
theorem test_meets_CloseAPermit_refusals :
    ((closingWith .surrenderPending .lost).lineIdle ∧ (closingWith .surrenderPending .lost).doublePollOk)
    ∧ ((closingWith .surrenderPending .lost).permit? 30 = some (permit .surrenderPending true true)
      ∧ (closingWith .surrenderPending .lost).als.alarms.filter
        (fun x => decide (x.unit ∈ (permit .surrenderPending true true).members)) = alarm 1 .raised .notWanted :: []
      ∧ (permit .surrenderPending true true).state ≠ .draft
      ∧ (closingWith .surrenderPending .lost).unit? 5 = some (unit 5 .lost))
    ∧ ((permit .active true true).state ≠ .surrenderPending ∧ (permit .draft false false).state = .draft)
    ∧ ((permitted .active true true).unit? 5 = some (unit 5 .inContact) ∧ (unit 5 .inContact).contact ≠ .lost
      ∧ (permitted .active true true).lineIdle ∧ (permitted .active true true).doublePollOk)
    ∧ running.permit? 30 = none :=
  ⟨ready_of (by decide), by decide, by decide, ⟨by decide, by decide, ready_of (by decide)⟩, by decide⟩

/-- The loaded part with permit 30 in a state and an order on it. -/
def loadedWith (st : PermitState) (on : OrderState) : State :=
  { loaded with
    swr := ⟨[device 100 [⟨30, 1000000⟩] none], [], 1⟩, pmt := ⟨[permit st true true], []⟩
    wos := ⟨[order 1 on (some 30)], 2⟩ }

/-- GO with a permit in each state that sends, and with an order it moves and one it leaves. -/
theorem test_meets_GoOpensTheChannel_permits :
    ((loadedWith .active .gated).lineIdle ∧ (loadedWith .active .gated).doublePollOk ∧ (loadedWith .active .gated).numbersOk
      ∧ (loadedWith .active .gated).loadingOk ∧ (loadedWith .active .gated).deadlinesOk
      ∧ (loadedWith .active .gated).rangesOk)
    ∧ (((loadedWith .active .gated).pmt.permits.map PermitRec.number).Nodup
      ∧ permit .active true true ∈ (loadedWith .active .gated).pmt.permits
      ∧ permit .offered true true ∈ (loadedWith .offered .gated).pmt.permits
      ∧ permit .suspended true true ∈ (loadedWith .suspended .gated).pmt.permits)
    ∧ (let held := fun (s : State) (o : OrderRec) => (o.state == .gated || o.state == .stopped)
          && s.pmt.permits.any (fun p => o.permit == some p.number && p.state == .active);
      held (loadedWith .active .gated) (order 1 .gated (some 30)) = true
        ∧ held (loadedWith .active .stopped) (order 1 .stopped (some 30)) = true
        ∧ held (loadedWith .active .gated) (order 1 .gated none) = false
        ∧ held (loadedWith .offered .gated) (order 1 .gated (some 30)) = false)
    ∧ ((loadedWith .active .gated).unit? 5).isSome = true := by
  refine ⟨⟨lineIdle_of (by decide), settled_of (by decide), ?_, ?_, deadlines_of_none rfl (by decide),
    ranges_of rfl rfl rfl (by decide)⟩, by decide, by decide, by decide⟩
  · unfold State.numbersOk
    decide
  · unfold State.loadingOk
    decide

/-- GO with those permits in OPERATING: the frames sent and the order PROCEEDING, on the two members and on the order. -/
theorem test_go_sends_for_the_permits :
    ∃ t, exec (.go 1) (loadedWith .active .gated) = .next t ∧ t.wos.orders.map OrderRec.state = [.proceeding]
      ∧ (t.unit? 5).map (fun u => (u.outbox.map Entry.content, u.waiting.map Demand.content))
        = some ([.permitNotice 30 .active, .orderNotice 1 .proceed], []) :=
  ⟨_, rfl, by decide, by decide⟩

/-- A cycle's start with a LOST unit and with none, by RESTART RADIO and at the end of the open window. -/
theorem test_meets_CycleStarts_budget :
    (running.units.filter (fun u => u.contact == .lost) = []
      ∧ (forsaken []).units.filter (fun u => u.contact == .lost) = [unit 5 .lost]
      ∧ ∀ x ∈ (forsaken []).units, x.contact = .lost → x.cls ≤ (unit 5 .lost).cls)
    ∧ (running.lineIdle ∧ running.runState = .operating)
    ∧ (running.psc.cycleState = .openWindow ∧ running.psc.openEnd ≤ running.now)
    ∧ ((alarmed .unanswered .queued).alarm? 1 = some (alarm 1 .unanswered .queued)
      ∧ ([⟨5, 183, .home, false⟩, ⟨7, 183, .visiting, false⟩] : List PollEntry).any (fun e => e.fleet == .visiting) = true
      ∧ ([⟨5, 183, .home, false⟩] : List PollEntry).any (fun e => e.fleet == .visiting) = false) :=
  ⟨by decide, ⟨line_running.1, rfl⟩, by decide, by decide⟩

/-- A unit's entry, an all-call's last copy with no entry on air, and with the one that is removed. -/
theorem test_meets_TransmitterRows_picks :
    (prompting.ale.txFrame = some ⟨.entry 5, 5, 1, [0], 0, .a⟩)
    ∧ ((keyed .sending (.allCall true)).ale.txFrame = some ⟨.allCall true, 5, 1, [0], 0, .a⟩
      ∧ ∀ e ∈ (keyed .sending (.allCall true)).psc.broadcast, e.onAir = false)
    ∧ ((calling false).ale.txFrame = some ⟨.allCall false, 5, 1, [0], 0, .a⟩
      ∧ (calling false).psc.broadcast.filter (·.onAir) = [⟨1, 1500000, true⟩]) := by
  decide

/-- A valid frame of a unit signed off, never heard, LOST, in contact, and of another class. -/
theorem test_meets_ValidFrames_heard :
    (running.unit? 7 = some (unit 7 .signedOff) ∧ loaded.unit? 5 = some (unit 5 .neverHeard)
      ∧ (unit 5 .neverHeard).heard = false ∧ (unit 5 .neverHeard).contact ≠ .signedOff)
    ∧ (let u : UnitRec := { unit 5 .lost with heard := true }; u.heard ≠ false ∧ u.contact = .lost)
    ∧ ((unit 5 .inContact).heard = true ∧ (unit 5 .inContact).contact ≠ .lost ∧ (unit 5 .inContact).cls = 0)
    ∧ ((unit 5 .inContact).cls ≠ 1 ∧ running.ale.rateTable[(unit 5 .inContact).cls]? = some ⟨9600, 9, 4⟩
      ∧ running.ale.rateTable[1]? = some ⟨4800, 17, 8⟩) := by
  decide

/-- The running part with unit 5 LOST before its second entry of the poll list, its receiver in the body of a frame. -/
def fading : State :=
  { hearing (.body 0 .home) false with
    units := [{ unit 5 .lost with heard := true }, unit 7 .signedOff]
    psc := { running.psc with
      cycleState := .poll, pollList := [⟨5, 183, .home, false⟩, ⟨5, 183, .home, false⟩], pollNext := 1 } }

/-- An ALERT regains a LOST unit and voids what is left of it in the poll list; a REPLY regains it and does not. -/
theorem test_alert_voids_the_polls :
    (∃ t, exec (.frameComplete (airFrame 0 5 0x42 [5, 4])) fading = .next t
      ∧ t.units.map UnitRec.contact = [.inContact, .signedOff] ∧ t.psc.pollList.map PollEntry.void = [true, true])
    ∧ ∃ t, exec (.frameComplete (airFrame 0 5 0x41 [0, 0])) fading = .next t
      ∧ t.units.map UnitRec.contact = [.inContact, .signedOff] ∧ t.psc.pollList.map PollEntry.void = [false, false] :=
  ⟨⟨_, rfl, by decide, by decide⟩, _, rfl, by decide, by decide⟩

/-- A PROMPT's outcome, and the windows of R45 at both classes of the table. -/
theorem test_meets_WorkerFallsDue_prompts :
    (prompt.source = .worker 9 ∧ prompt.content = .prompt 0 .checkinRequest ∧ (crewed .due).worker? 9 = some (worker 9 5 .due))
    ∧ (running.ale.rateTable[0]? = some ⟨9600, 9, 4⟩ ∧ 0 + 1 ≠ running.ale.rateTable.length
      ∧ running.ale.rateTable[1]? = some ⟨4800, 17, 8⟩ ∧ 1 + 1 = running.ale.rateTable.length) := by
  decide

end Sys2Proof.Tests
end

section
/-! PROOFS. What an idle line does with an arrived request, from the answer its owner gives; and SET RATE TABLE (R11,
R12). -/

namespace Sys2Proof.Machine

/-! ## A request on an idle line (R163, R164) -/

section

variable {s u : State} {r : Request} {o : ReplyOutcome} {body : List Byte}

/-- An idle line hands a request to its owner, and puts the answer on the line once the double-poll set is settled. -/
theorem requestArrives_of_answer (h : s.lineIdle) (ha : s.heardOut.answer r = (u, o, body)) (tag : Byte) :
    s.requestArrives tag r
      = u.settle.modClp (fun c => { c with sending := some ⟨BitVec.ofNat 8 r.kindCode, tag, o, body⟩ }) := by
  unfold State.requestArrives
  rw [if_neg (by simp [h.1]), arrive_of_lineIdle s h]
  unfold State.takeRequest
  rw [ha]

/-- A request whose owner changes nothing leaves a settled part as it was, but for the reply on the line. -/
theorem requestArrives_of_answer_unchanged (h : s.lineIdle) (hd : s.doublePollOk)
    (ha : s.heardOut.answer r = (s.heardOut, o, body)) (tag : Byte) :
    s.requestArrives tag r = s.replied r.kindCode tag o body := by
  have hsettled : s.heardOut.settle = s.heardOut := settle_of_doublePollOk _ hd
  have horder : s.clp.order = [] := h.2.2
  rw [requestArrives_of_answer h ha, hsettled]
  simp [State.heardOut, State.replied, State.modClp, horder]

/-- Putting a reply on the line writes the line only. -/
theorem touches_sending (s : State) (x : Option Reply) :
    Touches [.line] s (s.modClp (fun c => { c with sending := x })) := by
  intro p hp
  have hr := s.same_refl p
  cases p <;> first | exact hr | exact absurd (by decide) hp

/-- What the owner leaves behind stands after the request, outside the line and what settling may write (R117). -/
theorem requestArrives_same (h : s.lineIdle) (ha : s.heardOut.answer r = (u, o, body)) (tag : Byte) :
    Touches (.line :: Part.settled) u (s.requestArrives tag r) := by
  rw [requestArrives_of_answer h ha]
  exact .step (touches_sending _ _) (.of (touches_settle u))

/-- Where the owner does not write the line, its answer is the reply on the line, and nothing waits behind it. -/
theorem requestArrives_replies (h : s.lineIdle) (ha : s.heardOut.answer r = (u, o, body)) {ps : List Part}
    (ht : Touches ps s.heardOut u) (hps : .line ∉ ps) (tag : Byte) :
    (s.requestArrives tag r).replies r.kindCode tag o body := by
  have hline : s.heardOut.same u .line := ht _ hps
  have hsettle : u.same u.settle .line := touches_settle u _ (by decide)
  obtain ⟨hframe, -, horder⟩ := State.same_trans hline hsettle
  rw [requestArrives_of_answer h ha]
  exact ⟨rfl, horder, hframe⟩

end

/-- Two states with the same roster and contact hold the same classes at the same addresses. -/
theorem map_addr_cls_of_same {s t : State} (hr : s.same t .roster) (hc : s.same t .contact) :
    t.units.map (fun u => (u.addr, u.cls)) = s.units.map (fun u => (u.addr, u.cls)) := by
  have hzip : ∀ us : List UnitRec, us.map (fun u => (u.addr, u.cls))
      = List.zipWith (fun i c => (i.1, c.1)) (us.map UnitRec.identity) (us.map UnitRec.standing) := by
    intro us
    rw [List.zipWith_map, List.zipWith_self]
    rfl
  have hroster : t.units.map UnitRec.identity = s.units.map UnitRec.identity := hr
  have hcontact : t.units.map UnitRec.standing = s.units.map UnitRec.standing := hc
  rw [hzip, hzip, hroster, hcontact]

/-! ## SET RATE TABLE (R11, R12) -/

/-- The test for strict descent is the relation between all pairs. -/
theorem descending_iff_pairwise (rates : List Nat) : descending rates = true ↔ rates.Pairwise (fun a b => b < a) := by
  have hchain : descending rates = true ↔ rates.IsChain (· > ·) := by
    induction rates using descending.induct with
    | case1 x y rest ih => simp [descending, ih]
    | case2 xs hxs =>
      match xs, hxs with
      | [], _ => simp [descending]
      | [x], _ => simp [descending]
      | x :: y :: rest, hxs => exact absurd rfl (hxs x y rest)
  exact hchain.trans List.isChain_iff_pairwise

/-- The rates that R12 accepts. -/
def SoundRates (rates : List Nat) : Prop :=
  within 1 6 rates.length ∧ (∀ b ∈ rates, within 300 9600 b) ∧ rates.Pairwise (fun a b => b < a)
    ∧ (rates.map (fun b => (RateEntry.ofRate b).maxLen)).Nodup

/-- The test that SET RATE TABLE makes finds exactly the rates that R12 does not accept. -/
theorem rateTable_test_iff_not_soundRates (rates : List Nat) :
    (rates.length < 1 || 6 < rates.length || rates.any (fun b => decide (b < 300) || decide (9600 < b))
      || !descending rates || !distinct ((rates.map RateEntry.ofRate).map (·.maxLen))) = true
        ↔ ¬ SoundRates rates := by
  have hcount : within 1 6 rates.length ↔ ¬ rates.length < 1 ∧ ¬ 6 < rates.length := by
    simp only [within, not_lt]
  rw [← Bool.not_eq_false, not_iff_not, SoundRates, hcount, ← descending_iff_pairwise]
  simp [within, distinct, Function.comp_def, and_assoc]

/-- The new table is in force, and every class stands inside it (R12). -/
def State.withRates (rates : List Nat) (s : State) : State :=
  { s with ale.rateTable := rates.map RateEntry.ofRate, units := s.units.map (UnitRec.clampClass rates.length) }

theorem State.withRates_addr_cls (rates : List Nat) (s : State) :
    (s.withRates rates).units.map (fun u => (u.addr, u.cls))
      = s.units.map (fun u => (u.addr, if rates.length ≤ u.cls then rates.length - 1 else u.cls)) :=
  List.map_map ..

/-- A new table writes the rates and the units' classes. -/
theorem touches_withRates (rates : List Nat) (s : State) : Touches [.rates, .contact] s (s.withRates rates) := by
  intro p hp
  have hr := s.same_refl p
  cases p <;> first
    | exact hr
    | exact absurd (by decide) hp
    | exact List.map_map ..

theorem answer_setRateTable (rates : List Nat) (s : State) :
    s.answer (.setRateTable rates) = s.reqSetRateTable rates := rfl

theorem reqSetRateTable_of_operating (rates : List Nat) (s : State) (h : s.runState = .operating) :
    s.reqSetRateTable rates = s.refuse .notLoading [] := by
  unfold State.reqSetRateTable
  rw [if_pos (by simp [h])]

theorem reqSetRateTable_of_not_soundRates {rates : List Nat} (s : State) (h : s.runState = .loading)
    (hr : ¬ SoundRates rates) : s.reqSetRateTable rates = s.outOfRange 1 := by
  unfold State.reqSetRateTable
  rw [if_neg (by simp [h])]
  exact if_pos ((rateTable_test_iff_not_soundRates rates).2 hr)

theorem reqSetRateTable_of_soundRates {rates : List Nat} (s : State) (h : s.runState = .loading)
    (hr : SoundRates rates) :
    s.reqSetRateTable rates
      = (s.withRates rates).recomputeEstimate.accept (listBytes RateEntry.bytes (rates.map RateEntry.ofRate)) := by
  unfold State.reqSetRateTable
  rw [if_neg (by simp [h])]
  refine (if_neg (fun ht => (rateTable_test_iff_not_soundRates rates).1 ht hr)).trans ?_
  simp only [List.length_map]
  rfl

/-- The reply's list of entries, each with its rate, max_len and half_len (R12). -/
theorem listBytes_rateEntries (rates : List Nat) :
    listBytes RateEntry.bytes (rates.map RateEntry.ofRate)
      = u8 rates.length ++ rates.flatMap (fun b =>
          u16 b ++ u16 (RateEntry.ofRate b).maxLen ++ u16 (RateEntry.ofRate b).halfLen) := by
  simp [listBytes, List.flatMap_map, RateEntry.bytes, RateEntry.ofRate]

/-- An accepted SET RATE TABLE: the table in force, the units' classes and the reply. -/
theorem setRateTable_accepted {rates : List Nat} {s : State} (h : s.lineIdle) (hl : s.runState = .loading)
    (hr : SoundRates rates) (tag : Byte) :
    let t := s.requestArrives tag (.setRateTable rates)
    t.ale.rateTable = rates.map RateEntry.ofRate
      ∧ t.units.map (fun u => (u.addr, u.cls))
        = s.units.map (fun u => (u.addr, if rates.length ≤ u.cls then rates.length - 1 else u.cls))
      ∧ t.replies 0x10 tag .ok (listBytes RateEntry.bytes (rates.map RateEntry.ofRate)) := by
  intro t
  have ha : s.heardOut.answer (.setRateTable rates) = ((s.heardOut.withRates rates).recomputeEstimate, .ok,
      listBytes RateEntry.bytes (rates.map RateEntry.ofRate)) :=
    (answer_setRateTable ..).trans (reqSetRateTable_of_soundRates s.heardOut hl hr)
  have howner : Touches ([.rates, .contact] ++ Part.crewed) s.heardOut (s.heardOut.withRates rates).recomputeEstimate :=
    .step (touches_recomputeEstimate _) (.of (touches_withRates rates _))
  have hafter : Touches (.line :: Part.settled) (s.heardOut.withRates rates) t :=
    .step (requestArrives_same h ha tag) (.of (touches_recomputeEstimate _))
  refine ⟨hafter .rates (by decide), ?_, requestArrives_replies h ha howner (by decide) tag⟩
  exact (map_addr_cls_of_same (hafter .roster (by decide)) (hafter .contact (by decide))).trans
    (State.withRates_addr_cls rates s.heardOut)

/-- Settles O17: the three clauses are the three answers of the owner's rule, put on an idle line. -/
theorem setRateTable : Obligations.SetRateTable := by
  intro tag rates s maxLen halfLen sound hidle
  refine ⟨fun hl hr => ?_, fun hl hr hd => ⟨u8 1, ?_⟩, fun ho hd => ?_⟩
  · obtain ⟨htable, hclasses, hreply⟩ := setRateTable_accepted hidle hl hr tag
    rw [listBytes_rateEntries] at hreply
    exact ⟨_, rfl, htable, hclasses, hreply⟩
  · exact congrArg Host.Outcome.next (requestArrives_of_answer_unchanged hidle hd
      ((answer_setRateTable ..).trans (reqSetRateTable_of_not_soundRates s.heardOut hl hr)) tag)
  · exact congrArg Host.Outcome.next (requestArrives_of_answer_unchanged hidle hd
      ((answer_setRateTable ..).trans (reqSetRateTable_of_operating rates s.heardOut ho)) tag)

end Sys2Proof.Machine
end

section
/-! PROOFS. What a recomputation of the cycle estimate leaves of events, entries and estimates (R46, R87 to R89, R95);
and SET CHANNEL TIMING (R30, R58, R60). -/

namespace Sys2Proof.Machine

/-! ## What a recomputation leaves of events and outbox entries -/

/-- The events that a recomputation of the estimate and the workers behind it may raise (R46, R87, R95). -/
def EventKind.ofEstimate (k : EventKind) : Prop := k = .workerStretched ∨ k = .workerDue ∨ k = .cycleEstimate

/-- Entry x has been kept as it was, or a worker's prompt has been placed over it now with full retries (R55). -/
def Entry.KeptOrRenewed (now retries : Nat) (e x : Entry) : Prop :=
  x = e ∨ ((∃ w, e.source = .worker w) ∧ x.source = e.source ∧ x.time = now ∧ x.retries = retries)

theorem Entry.KeptOrRenewed.trans {now retries : Nat} {e x y : Entry} (h1 : e.KeptOrRenewed now retries x)
    (h2 : x.KeptOrRenewed now retries y) : e.KeptOrRenewed now retries y := by
  obtain rfl | ⟨hworker, hsource, hrenewed⟩ := h1
  · exact h2
  · obtain rfl | ⟨-, hsource', htime, hretries⟩ := h2
    · exact .inr ⟨hworker, hsource, hrenewed⟩
    · exact .inr ⟨hworker, hsource'.trans hsource, htime, hretries⟩

/-- Every entry of u's outbox stands in v's, kept or renewed. -/
def UnitRec.EntriesIn (now retries : Nat) (u v : UnitRec) : Prop :=
  ∀ e ∈ u.outbox, ∃ x ∈ v.outbox, e.KeptOrRenewed now retries x

theorem UnitRec.EntriesIn.of_subset {now retries : Nat} {u v : UnitRec} (h : ∀ e ∈ u.outbox, e ∈ v.outbox) :
    u.EntriesIn now retries v := fun e he => ⟨e, h e he, .inl rfl⟩

/-- What a recomputation leaves: the time, the retry budget, no new event but its own, and every entry. -/
structure State.Recomputed (s t : State) : Prop where
  now : t.now = s.now
  retries : t.psc.timing.r = s.psc.timing.r
  events : ∀ e ∈ t.clp.queue, e ∈ s.clp.queue ∨ e.kind.ofEstimate
  entries : ∀ u ∈ s.units, ∃ v ∈ t.units, v.addr = u.addr ∧ u.EntriesIn s.now s.psc.timing.r v

theorem State.Recomputed.trans {s t u : State} (h1 : s.Recomputed t) (h2 : t.Recomputed u) : s.Recomputed u where
  now := h2.now.trans h1.now
  retries := h2.retries.trans h1.retries
  events e he := (h2.events e he).elim (h1.events e) .inr
  entries a ha := by
    obtain ⟨b, hb, hab, heb⟩ := h1.entries a ha
    obtain ⟨c, hc, hbc, hec⟩ := h2.entries b hb
    rw [h1.now, h1.retries] at hec
    refine ⟨c, hc, hbc.trans hab, fun e he => ?_⟩
    obtain ⟨x, hx, hex⟩ := heb e he
    obtain ⟨y, hy, hxy⟩ := hec x hx
    exact ⟨y, hy, hex.trans hxy⟩

/-- A change of neither the time, the retry budget, the queue nor a unit. -/
theorem State.Recomputed.of_same {s t : State} (hn : t.now = s.now := by rfl)
    (hr : t.psc.timing.r = s.psc.timing.r := by rfl) (hq : t.clp.queue = s.clp.queue := by rfl)
    (hu : t.units = s.units := by rfl) : s.Recomputed t where
  now := hn
  retries := hr
  events _ he := .inl (hq ▸ he)
  entries u h := ⟨u, hu ▸ h, rfl, .of_subset fun _ he => he⟩

theorem State.Recomputed.refl (s : State) : s.Recomputed s := .of_same

theorem State.Recomputed.ite {s a b : State} {c : Prop} [Decidable c] (ha : s.Recomputed a) (hb : s.Recomputed b) :
    s.Recomputed (if c then a else b) := by
  split
  · exact ha
  · exact hb

/-- Queueing an entry brings no other entry into the queue (R167). -/
theorem mem_queue_enqueue {c : Clp} {e x : EventEntry} (h : x ∈ (c.enqueue e).queue) : x ∈ c.queue ∨ x = e := by
  unfold Clp.enqueue at h
  split_ifs at h
  · simpa using h
  · rcases List.mem_append.1 h with hx | hx
    · exact .inl ((removeFirst_sublist _ _).subset hx)
    · exact .inr (List.mem_singleton.1 hx)
  · exact .inl h

section

variable (s : State)

theorem recomputed_raise {k : EventKind} (hk : k.ofEstimate) (x : Subject) (d : List Byte) :
    s.Recomputed (s.raise k x d) := by
  refine .ite (.refl s) { State.Recomputed.refl s with events := fun e he => ?_ }
  rcases mem_queue_enqueue he with h | rfl
  · exact .inl h
  · exact .inr hk

theorem recomputed_modUnit (a : Nat) (f : UnitRec → UnitRec) (ha : ∀ u, (f u).addr = u.addr)
    (hf : ∀ u : UnitRec, u.EntriesIn s.now s.psc.timing.r (f u)) : s.Recomputed (s.modUnit a f) where
  now := rfl
  retries := rfl
  events _ he := .inl he
  entries u hu := by
    refine ⟨_, List.mem_map_of_mem hu, ?_⟩
    split
    · exact ⟨ha u, hf u⟩
    · exact ⟨rfl, .of_subset fun _ he => he⟩

/-- Only a permit is told where its frame stands (R141). -/
theorem noteFrame_worker (a w : Nat) (c : Content) (n : Option Nat) : s.noteFrame a (.worker w) c n = s := rfl

theorem recomputed_replaceEntry (a w : Nat) (d : Demand) (hd : d.source = .worker w) :
    s.Recomputed (s.modUnit a (UnitRec.replaceEntry s.psc.timing.r s.now d)) := by
  refine recomputed_modUnit s a _ (fun _ => rfl) fun u e he => ⟨_, List.mem_map_of_mem he, ?_⟩
  split
  case isTrue hfrom =>
    have hsource : e.source = d.source := by simpa [Entry.isFrom] using hfrom
    exact .inr ⟨⟨w, hsource.trans hd⟩, hsource.symm, rfl, rfl⟩
  case isFalse => exact .inl rfl

/-- A worker's prompt takes the place of its own entry only (R55). -/
theorem recomputed_send_worker (a w : Nat) (c : Content) (cls : Nat) (em : Bool) :
    s.Recomputed (s.send a (.worker w) c cls em) := by
  unfold State.send
  split
  · exact .refl s
  · simp only [State.demand, State.enterEntry, noteFrame_worker]
    refine .ite (recomputed_replaceEntry s a w _ rfl) (.ite ?replace (.ite ?enter ?wait))
    case replace => exact recomputed_modUnit s a _ (fun _ => rfl) fun _ => .of_subset fun _ he => he
    case enter =>
      exact recomputed_modUnit s _ _ (fun _ => rfl) fun _ => .of_subset fun _ he => List.mem_append_left _ he
    case wait => exact recomputed_modUnit s _ _ (fun _ => rfl) fun _ => .of_subset fun _ he => he

theorem recomputed_modWorker (w : Nat) (f : WorkerRec → WorkerRec) : s.Recomputed (s.modWorker w f) := .of_same

theorem recomputed_fallDue (i : Nat) : s.Recomputed (s.fallDue i) := by
  unfold State.fallDue
  split
  · exact .refl s
  · exact ((recomputed_modWorker s _ _).trans (recomputed_send_worker _ _ _ _ _ _)).trans
      (recomputed_raise _ (.inr (.inl rfl)) _ _)

theorem recomputed_rebase (i : Nat) : s.Recomputed (s.rebase i) := by
  unfold State.rebase
  split
  · exact .refl s
  · exact .ite (.ite (recomputed_fallDue s i) (recomputed_modWorker s _ _)) (.refl s)

theorem recomputed_recomputeWorker (i : Nat) : s.Recomputed (s.recomputeWorker i) := by
  unfold State.recomputeWorker
  split
  · exact .refl s
  · refine .trans (.ite ?_ ?_) (recomputed_rebase _ i)
    · exact (recomputed_modWorker s _ _).trans (recomputed_raise _ (.inl rfl) _ _)
    · exact recomputed_modWorker s _ _

theorem recomputed_recomputeWorkers (is : List Nat) : s.Recomputed (s.recomputeWorkers is) := by
  unfold State.recomputeWorkers
  induction is generalizing s with
  | nil => exact .refl s
  | cons i is ih => exact (recomputed_recomputeWorker s i).trans (ih _)

end

/-! ## What a recomputation does to the estimates (R46, R88) -/

/-- The parts that the workers' recomputation writes once the estimate stands: those of `Part.crewed` but for the
estimate and the closing notice list. -/
def Part.prompted : List Part := [.workers, .queue, .outboxes, .deliveries]

section

variable (s : State)

theorem touches_fallDue_prompted (i : Nat) : Touches Part.prompted s (s.fallDue i) := by
  unfold State.fallDue
  split
  · exact .refl _ _
  · exact .step (touches_raise _ _ _ _) (.step (touches_send _ _ _ _ _ _) (.of (touches_modWorker s _ _)))

theorem touches_rebase_prompted (i : Nat) : Touches Part.prompted s (s.rebase i) := by
  unfold State.rebase
  split
  · exact .refl _ _
  · exact .ite (.ite (touches_fallDue_prompted s i) (.of (touches_modWorker s _ _))) (.refl _ _)

theorem touches_recomputeWorker_prompted (i : Nat) : Touches Part.prompted s (s.recomputeWorker i) := by
  unfold State.recomputeWorker
  split
  · exact .refl _ _
  · refine .trans (.ite (.step (touches_raiseStretched _ _) ?_) ?_) (touches_rebase_prompted _ i)
    · exact .of (touches_modWorker s _ _)
    · exact .of (touches_modWorker s _ _)

theorem touches_recomputeWorkers_prompted (is : List Nat) : Touches Part.prompted s (s.recomputeWorkers is) :=
  .foldl (fun s i => touches_recomputeWorker_prompted s i) is s

end

/-- PSC and LWM hold an estimate, and LWM a grace. -/
def State.withEstimate (c g : Nat) (s : State) : State :=
  { s with psc.estimate := c, lwm.estimate := c, lwm.grace := g }

/-- A publication: LWM holds both values, and some of its workers have been recomputed, or none (R88). -/
theorem publish_eq (c g : Nat) (s : State) :
    ∃ is, s.publish c g = ({ s with lwm.estimate := c, lwm.grace := g } : State).recomputeWorkers is := by
  unfold State.publish
  split
  case isTrue h =>
    obtain ⟨rfl, rfl⟩ := h
    exact ⟨[], rfl⟩
  case isFalse => exact ⟨_, rfl⟩

/-- What PSC's recomputation can do: the new estimate and the grace are held, workers are recomputed behind it, and an
estimate that differs from the old one is reported (R46, R88). -/
theorem recomputeEstimateWith_cases (g : Nat) (s : State) :
    ∃ is, s.recomputeEstimateWith g = (s.withEstimate s.estimateNow g).recomputeWorkers is
      ∨ ∃ d, s.recomputeEstimateWith g
        = ((s.withEstimate s.estimateNow g).recomputeWorkers is).raise .cycleEstimate .base d := by
  unfold State.recomputeEstimateWith
  dsimp only
  split
  case isTrue h =>
    have hheld : s.withEstimate s.estimateNow g = { s with lwm.estimate := s.estimateNow, lwm.grace := g } := by
      unfold State.withEstimate
      rw [h]
    obtain ⟨is, his⟩ := publish_eq s.estimateNow g s
    exact ⟨is, .inl (by rw [hheld, his])⟩
  case isFalse =>
    obtain ⟨is, his⟩ := publish_eq s.estimateNow g (s.modPsc (fun p => { p with estimate := s.estimateNow }))
    exact ⟨is, .inr ⟨_, by rw [his]; rfl⟩⟩

theorem touches_withEstimate_recomputeEstimateWith (g : Nat) (s : State) :
    Touches Part.prompted (s.withEstimate s.estimateNow g) (s.recomputeEstimateWith g) := by
  obtain ⟨is, h | ⟨d, h⟩⟩ := recomputeEstimateWith_cases g s
  · rw [h]
    exact touches_recomputeWorkers_prompted _ is
  · rw [h]
    exact .step (touches_raise _ _ _ _) (touches_recomputeWorkers_prompted _ is)

theorem recomputed_recomputeEstimateWith (g : Nat) (s : State) : s.Recomputed (s.recomputeEstimateWith g) := by
  have hheld : s.Recomputed (s.withEstimate s.estimateNow g) := .of_same
  obtain ⟨is, h | ⟨d, h⟩⟩ := recomputeEstimateWith_cases g s
  · rw [h]
    exact hheld.trans (recomputed_recomputeWorkers _ is)
  · rw [h]
    exact (hheld.trans (recomputed_recomputeWorkers _ is)).trans (recomputed_raise _ (.inr (.inr rfl)) _ _)

/-! ## The estimate held is the one R46 gives -/

/-- What the estimate asks of a unit (R45, R46). -/
def UnitRec.polling (u : UnitRec) : Nat × Nat × Contact := (u.addr, u.cls, u.contact)

/-- A selection by one figure and a reading by it are the same over two lists of the same figures. -/
theorem map_filter_of_map_eq {α β γ : Type} {f : α → β} {xs ys : List α} (h : xs.map f = ys.map f) (p : β → Bool)
    (g : β → γ) :
    (xs.filter (fun x => p (f x))).map (fun x => g (f x)) = (ys.filter (fun x => p (f x))).map (fun x => g (f x)) := by
  have hfactor : ∀ zs : List α,
      (zs.filter (fun x => p (f x))).map (fun x => g (f x)) = ((zs.map f).filter p).map g := by
    intro zs
    rw [List.filter_map, List.map_map]
    rfl
  rw [hfactor, hfactor, h]

theorem map_polling_of_same {s t : State} (hr : s.same t .roster) (hc : s.same t .contact) :
    t.units.map UnitRec.polling = s.units.map UnitRec.polling := by
  have hpair : ∀ us : List UnitRec, us.map UnitRec.polling
      = List.zipWith (fun i c => (i.1, c.1, c.2.1)) (us.map UnitRec.identity) (us.map UnitRec.standing) := by
    intro us
    rw [List.zipWith_map, List.zipWith_self]
    rfl
  have hroster : t.units.map UnitRec.identity = s.units.map UnitRec.identity := hr
  have hcontact : t.units.map UnitRec.standing = s.units.map UnitRec.standing := hc
  rw [hpair, hpair, hroster, hcontact]

theorem airtimeAt_of_rateTable {a b : Ale} (h : b.rateTable = a.rateTable) : b.airtimeAt = a.airtimeAt := by
  funext k n cls
  simp only [Ale.airtimeAt, Ale.rateEntry?, h]

theorem window_of_rateTable {a b : Ale} (h : b.rateTable = a.rateTable) : b.window = a.window := by
  funext k t cls
  simp only [Ale.window, airtimeAt_of_rateTable h, h]

theorem openWindow_of_rateTable {a b : Ale} (h : b.rateTable = a.rateTable) : b.openWindow = a.openWindow := by
  funext k t
  simp only [Ale.openWindow, Ale.slowest, airtimeAt_of_rateTable h, h]

/-- The slowest class is read off the units' classes. -/
theorem slowestClass_eq_foldl (us : List UnitRec) : slowestClass us = (us.map UnitRec.cls).foldl max 0 :=
  List.foldl_map.symm

theorem sumWindows_of_same {s t : State} (hu : t.units.map UnitRec.polling = s.units.map UnitRec.polling)
    (hr : t.ale.rateTable = s.ale.rateTable) (hd : t.psc.doublePoll = s.psc.doublePoll) :
    t.sumWindows = s.sumWindows := by
  funext k v
  have honce : t.pollables.map (fun u => s.ale.window k v u.cls) = s.pollables.map (fun u => s.ale.window k v u.cls) :=
    map_filter_of_map_eq hu (fun x => x.2.2.pollable) (fun x => s.ale.window k v x.2.1)
  have htwice : (t.pollables.filter (fun u => s.psc.doublePoll.contains u.addr)).map (fun u => s.ale.window k v u.cls)
      = (s.pollables.filter (fun u => s.psc.doublePoll.contains u.addr)).map (fun u => s.ale.window k v u.cls) := by
    unfold State.pollables
    rw [List.filter_filter, List.filter_filter]
    exact map_filter_of_map_eq hu (fun x => s.psc.doublePoll.contains x.1 && x.2.2.pollable)
      (fun x => s.ale.window k v x.2.1)
  simp only [State.sumWindows, sumOf, window_of_rateTable hr, hd, honce, htwice]

theorem probeWindow_of_same {s t : State} (hu : t.units.map UnitRec.polling = s.units.map UnitRec.polling)
    (hr : t.ale.rateTable = s.ale.rateTable) : t.probeWindow = s.probeWindow := by
  funext k v
  have hlost : t.losts.map UnitRec.cls = s.losts.map UnitRec.cls :=
    map_filter_of_map_eq hu (fun x => x.2.2 == .lost) (fun x => x.2.1)
  have hnone : t.losts.isEmpty = s.losts.isEmpty := by
    rw [← List.isEmpty_map (f := UnitRec.cls), hlost, List.isEmpty_map]
  simp only [State.probeWindow, slowestClass_eq_foldl, window_of_rateTable hr, hlost, hnone]

/-- The estimate follows from the roster, the contact, the rates, the double-poll set and the timing (R46). -/
theorem estimateNow_of_same {s t : State} (hroster : s.same t .roster) (hcontact : s.same t .contact)
    (hrates : s.same t .rates) (hdouble : s.same t .doublePoll) (htiming : s.same t .timing) :
    t.estimateNow = s.estimateNow := by
  have hu := map_polling_of_same hroster hcontact
  obtain ⟨hv, -⟩ := htiming
  simp only [State.estimateNow, hv, sumWindows_of_same hu hrates hdouble, probeWindow_of_same hu hrates,
    openWindow_of_rateTable hrates]

/-- PSC holds the estimate that R46 gives, and LWM has it (R46, R88). -/
def State.estimated (s : State) : Prop := s.psc.estimate = s.estimateNow ∧ s.lwm.estimate = s.psc.estimate

theorem estimated_of_touches {s t : State} {ps : List Part} (h : Touches ps s t) (hs : s.estimated)
    (hps : ∀ p ∈ [Part.roster, .contact, .rates, .doublePoll, .timing, .estimate], p ∉ ps := by decide) :
    t.estimated := by
  have hsame : ∀ p ∈ [Part.roster, .contact, .rates, .doublePoll, .timing, .estimate], s.same t p :=
    fun p hp => h p (hps p hp)
  have hnow : t.estimateNow = s.estimateNow := estimateNow_of_same (hsame _ (by decide)) (hsame _ (by decide))
    (hsame _ (by decide)) (hsame _ (by decide)) (hsame _ (by decide))
  obtain ⟨hpsc, hlwm⟩ : s.same t .estimate := hsame _ (by decide)
  exact ⟨hpsc.trans (hs.1.trans hnow.symm), hlwm.trans (hs.2.trans hpsc.symm)⟩

theorem estimated_recomputeEstimateWith (g : Nat) (s : State) : (s.recomputeEstimateWith g).estimated :=
  estimated_of_touches (touches_withEstimate_recomputeEstimateWith g s) ⟨rfl, rfl⟩

/-! ## Settling the double-poll set (R117) -/

theorem recomputed_settleTimes (n : Nat) (s : State) : s.Recomputed (s.settleTimes n) := by
  induction n generalizing s with
  | zero => exact .refl s
  | succ n ih =>
    unfold State.settleTimes
    split
    · exact .refl s
    · exact (State.Recomputed.trans .of_same (recomputed_recomputeEstimateWith _ _)).trans (ih _)

theorem estimated_settleTimes (n : Nat) (s : State) (h : s.estimated) : (s.settleTimes n).estimated := by
  induction n generalizing s with
  | zero => exact h
  | succ n ih =>
    unfold State.settleTimes
    split
    · exact h
    · exact ih _ (estimated_recomputeEstimateWith _ _)

section

variable {s u : State} {r : Request} {o : ReplyOutcome} {body : List Byte}

/-- Between the owner's answer and the end of the request only recomputations stand (R117). -/
theorem requestArrives_recomputed (h : s.lineIdle) (ha : s.heardOut.answer r = (u, o, body)) (tag : Byte) :
    u.Recomputed (s.requestArrives tag r) := by
  rw [requestArrives_of_answer h ha]
  exact (recomputed_settleTimes _ u).trans .of_same

/-- An owner that leaves the estimates in order leaves them so after the request. -/
theorem requestArrives_estimated (h : s.lineIdle) (ha : s.heardOut.answer r = (u, o, body)) (tag : Byte)
    (hu : u.estimated) : (s.requestArrives tag r).estimated := by
  rw [requestArrives_of_answer h ha]
  exact estimated_of_touches (touches_sending _ _) (estimated_settleTimes _ u hu)

end

/-! ## SET CHANNEL TIMING (R60) -/

/-- The timing is in force: every budget stands under the new miss limit and every entry's retries under the new retry
budget (R30, R58, R60). -/
def State.withTiming (c : Timing) (s : State) : State :=
  { s with psc.timing := c, units := s.units.map (fun u => (u.adjustBudget c.n).capRetries c.r) }

theorem answer_setChannelTiming (v : TimingArg) (s : State) :
    s.answer (.setChannelTiming v) = ((s.withTiming (clampedTiming v)).recomputeEstimateWith (clampedTiming v).g,
      if clampedTiming v == ⟨v.k, v.t, v.b, v.g, v.n, v.r⟩ then .ok else .clamped,
      u16 (clampedTiming v).k ++ u16 (clampedTiming v).t ++ u16 (clampedTiming v).b ++ u16 (clampedTiming v).g
        ++ u8 (clampedTiming v).n ++ u8 (clampedTiming v).r) := rfl

/-- A new limit changes a unit's budget only (R30). -/
theorem adjustBudget_eq (n : Nat) (u : UnitRec) : ∃ b, u.adjustBudget n = { u with budget := b } := by
  unfold UnitRec.adjustBudget
  split
  · exact ⟨n, rfl⟩
  · exact ⟨min n u.budget, rfl⟩
  · exact ⟨min n u.budget, rfl⟩
  · exact ⟨u.budget, rfl⟩
  · exact ⟨u.budget, rfl⟩

@[simp] theorem adjustBudget_identity (n : Nat) (u : UnitRec) : (u.adjustBudget n).identity = u.identity := by
  obtain ⟨b, h⟩ := adjustBudget_eq n u
  rw [h]
  rfl

@[simp] theorem adjustBudget_hazard (n : Nat) (u : UnitRec) : (u.adjustBudget n).hazard = u.hazard := by
  obtain ⟨b, h⟩ := adjustBudget_eq n u
  rw [h]

@[simp] theorem adjustBudget_addr (n : Nat) (u : UnitRec) : (u.adjustBudget n).addr = u.addr := by
  obtain ⟨b, h⟩ := adjustBudget_eq n u
  rw [h]

@[simp] theorem adjustBudget_outbox (n : Nat) (u : UnitRec) : (u.adjustBudget n).outbox = u.outbox := by
  obtain ⟨b, h⟩ := adjustBudget_eq n u
  rw [h]

theorem touches_withTiming (c : Timing) (s : State) :
    Touches [.timing, .contact, .outboxes] s (s.withTiming c) := by
  intro p hp
  have hr := s.same_refl p
  have hidentity : (s.withTiming c).units.map UnitRec.identity = s.units.map UnitRec.identity := by
    rw [State.withTiming, List.map_map]
    exact List.map_congr_left fun u _ => adjustBudget_identity c.n u
  have hhazard : (s.withTiming c).units.map UnitRec.hazard = s.units.map UnitRec.hazard := by
    rw [State.withTiming, List.map_map]
    exact List.map_congr_left fun u _ => adjustBudget_hazard c.n u
  cases p <;> first
    | exact hr
    | exact hidentity
    | exact hhazard
    | exact absurd (by decide) hp

/-- The new limit leaves of every unit's standing but the budget (R30). -/
theorem withTiming_standing (c : Timing) (s : State) :
    (s.withTiming c).units.map UnitRec.standing = s.units.map (fun u => (u.adjustBudget c.n).standing) :=
  List.map_map ..

/-- An entry of a unit after the new retry budget (R58). -/
def Entry.capped (r : Nat) (e : Entry) : Entry := { e with retries := if r < e.retries then r else e.retries }

theorem min_retries_eq_capped (r : Nat) (e : Entry) : { e with retries := min r e.retries } = e.capped r := by
  unfold Entry.capped
  split
  case isTrue h => rw [Nat.min_eq_left h.le]
  case isFalse h => rw [Nat.min_eq_right (Nat.le_of_not_lt h)]

theorem mem_withTiming {c : Timing} {s : State} {u : UnitRec} (h : u ∈ s.units) :
    ∃ v ∈ (s.withTiming c).units, v.addr = u.addr ∧ v.outbox = u.outbox.map (Entry.capped c.r) := by
  refine ⟨_, List.mem_map_of_mem h, adjustBudget_addr c.n u, ?_⟩
  simp only [UnitRec.capRetries, adjustBudget_outbox, min_retries_eq_capped]

/-- What stands of the units' entries after the recomputation behind a new timing (R55, R58). -/
theorem entries_of_recomputed_withTiming {c : Timing} {s t : State} (h : (s.withTiming c).Recomputed t) :
    ∀ u ∈ s.units, ∃ v ∈ t.units, v.addr = u.addr ∧ ∀ e ∈ u.outbox, ∃ x ∈ v.outbox, x = e.capped c.r
      ∨ ((∃ w, e.source = .worker w) ∧ x.source = e.source ∧ x.time = s.now ∧ x.retries = c.r) := by
  intro u hu
  obtain ⟨a, ha, hua, houtbox⟩ := mem_withTiming (c := c) hu
  obtain ⟨v, hv, hav, hentries⟩ := h.entries a ha
  refine ⟨v, hv, hav.trans hua, fun e he => ?_⟩
  exact hentries (e.capped c.r) (houtbox ▸ List.mem_map_of_mem he)

/-- What a taken SET CHANNEL TIMING leaves: the new timing and what it changes itself, and behind it recomputations
only. -/
theorem setChannelTiming_taken {s : State} (h : s.lineIdle) (tag : Byte) (v : TimingArg) :
    let c := clampedTiming v
    let t := s.requestArrives tag (.setChannelTiming v)
    (s.heardOut.withTiming c).Recomputed t ∧ t.estimated ∧ t.psc.timing = c ∧ t.lwm.grace = c.g
      ∧ t.psc.running = s.psc.running
      ∧ t.units.map UnitRec.standing = s.units.map (fun u => (u.adjustBudget c.n).standing)
      ∧ t.replies 0x12 tag (if c == ⟨v.k, v.t, v.b, v.g, v.n, v.r⟩ then .ok else .clamped)
        (u16 c.k ++ u16 c.t ++ u16 c.b ++ u16 c.g ++ u8 c.n ++ u8 c.r) := by
  intro c t
  have ha := answer_setChannelTiming v s.heardOut
  have howner : Touches ([.timing, .contact] ++ Part.crewed) s.heardOut
      ((s.heardOut.withTiming c).recomputeEstimateWith c.g) :=
    .step (touches_recomputeEstimateWith _ _) (.of (touches_withTiming c _))
  have hafter : Touches (.line :: Part.settled)
      ((s.heardOut.withTiming c).withEstimate (s.heardOut.withTiming c).estimateNow c.g) t :=
    .step (requestArrives_same h ha tag) (.of (touches_withEstimate_recomputeEstimateWith c.g _))
  obtain ⟨htiming, hgrace⟩ := hafter .timing (by decide)
  refine ⟨?_, ?_, htiming, hgrace, hafter .cycle (by decide), ?_, ?_⟩
  · exact (recomputed_recomputeEstimateWith c.g _).trans (requestArrives_recomputed h ha tag)
  · exact requestArrives_estimated h ha tag (estimated_recomputeEstimateWith c.g _)
  · exact (hafter .contact (by decide)).trans (withTiming_standing c s.heardOut)
  · exact requestArrives_replies h ha howner (by decide) tag

/-- The ranges of R60; K, B and G have no lower limit. -/
theorem clampedTiming_eq (v : TimingArg) :
    clampedTiming v = ⟨min 250 v.k, max 10 (min 200 v.t), min 30000 v.b, min 60000 v.g, max 2 (min 15 v.n),
      max 1 (min 8 v.r)⟩ := by
  simp only [clampedTiming, clamp, Nat.zero_max]

/-- Settles O19: the new timing changes budgets and retries, and every other change is a recomputation's. -/
theorem setChannelTiming : Obligations.SetChannelTiming := by
  refine ⟨rfl, fun tag v s hidle => ?_⟩
  rw [← clampedTiming_eq]
  obtain ⟨hrecomputed, hestimated, htiming, hgrace, hrunning, hstanding, hreply⟩ := setChannelTiming_taken hidle tag v
  refine ⟨_, rfl, htiming, hgrace, hrunning, hestimated, hstanding.trans ?_, hrecomputed.events,
    entries_of_recomputed_withTiming (s := s.heardOut) hrecomputed, ?_⟩
  · refine List.map_congr_left fun u _ => ?_
    unfold UnitRec.adjustBudget
    cases u.contact <;> rfl
  · simpa only [beq_iff_eq] using hreply

end Sys2Proof.Machine
end

section
/-! PROOFS. The window ends of alarms (R113, R114): what one writes to the alarm's record, the broadcast outbox and the
report queue, and why the double-poll set stays settled behind it. -/

namespace Sys2Proof.Machine

/-! ## Changes of one element of a list -/

section

variable {α β : Type} {p : α → Bool}

/-- Two changes of the same elements are one. -/
theorem update_update {f g : α → α} (h : ∀ x, p (f x) = p x) (xs : List α) :
    update p g (update p f xs) = update p (fun x => g (f x)) xs := by
  simp only [update, List.map_map]
  refine List.map_congr_left fun x _ => ?_
  by_cases hx : p x = true <;> simp [hx, h]

/-- A figure that the change keeps on the elements of the list is the same over the whole list. -/
theorem map_update_of_mem (g : α → β) {f : α → α} {xs : List α} (h : ∀ x ∈ xs, p x = true → g (f x) = g x) :
    (update p f xs).map g = xs.map g := by
  simp only [update, List.map_map]
  refine List.map_congr_left fun x hx => ?_
  rw [Function.comp_apply, apply_ite g]
  split
  · exact h x hx (by assumption)
  · rfl

end

/-! ## The records of the Alarm List -/

section

variable {a : Nat} {r q : AlarmRec} {s : State}

theorem id_of_alarm? (h : s.alarm? a = some r) : r.id = a := by
  simpa using List.find?_some (p := fun q : AlarmRec => q.id == a) h

theorem mem_of_alarm? (h : s.alarm? a = some r) : r ∈ s.als.alarms := List.mem_of_find?_eq_some h

/-- No two open alarms have one id, so the one found is the only one of its id (R106). -/
theorem eq_of_alarm? (hids : (s.als.alarms.map AlarmRec.id).Nodup) (h : s.alarm? a = some r) (hq : q ∈ s.als.alarms)
    (hqa : q.id = a) : q = r := by
  have hfound := find?_of_nodup AlarmRec.id hids hq
  rw [hqa] at hfound
  exact Option.some.inj (hfound.symm.trans h)

/-- The change of an alarm's record as the statements write it. -/
theorem update_alarm_eq_map (a : Nat) (f : AlarmRec → AlarmRec) (rs : List AlarmRec) :
    update (fun q => q.id == a) f rs = rs.map (fun q => if q.id = a then f q else q) := by
  simp only [update, beq_iff_eq]

end

/-! ## The double-poll set and SITE ALARM (R116, R117) -/

/-- What of an alarm's record counts for the double-poll set (R117). -/
def AlarmRec.doubles (q : AlarmRec) : Nat × Bool := (q.unit, q.stage.waits)

theorem any_alarms_eq_any_doubles (rs : List AlarmRec) (u : Nat) :
    rs.any (fun q => q.unit == u && q.stage.waits) = (rs.map AlarmRec.doubles).any (fun x => x.1 == u && x.2) := by
  rw [List.any_map]
  rfl

/-- The set stays settled where the alarms' units, and which of them wait for an acknowledgement, stay as they were. -/
theorem State.doublePollOk.of_doubles {s t : State} (hd : s.doublePollOk)
    (hdoubles : t.als.alarms.map AlarmRec.doubles = s.als.alarms.map AlarmRec.doubles)
    (hunits : t.units = s.units := by rfl) (hworkers : t.lwm.workers = s.lwm.workers := by rfl)
    (hset : t.psc.doublePoll = s.psc.doublePoll := by rfl) : t.doublePollOk := by
  have hwants : ∀ u, t.wantsDouble u = s.wantsDouble u := fun u => by
    simp only [State.wantsDouble, any_alarms_eq_any_doubles, hdoubles, hworkers]
  intro u hu
  rw [hunits, hset] at hu
  rw [hwants, hset]
  exact hd u hu

/-- An open record that is UNANSWERED asserts SITE ALARM (R116). -/
theorem updateSiteAlarm_of_unanswered {s : State} {q : AlarmRec} (hq : q ∈ s.als.alarms) (h : q.stage = .unanswered) :
    s.updateSiteAlarm = { s with als.siteAlarm := true } := by
  have hany : s.als.alarms.any (fun r => r.stage == .unanswered) = true :=
    List.any_eq_true.2 ⟨q, hq, beq_iff_eq.2 h⟩
  unfold State.updateSiteAlarm
  rw [hany]

/-! ## Events of a fixed level (R168) -/

theorem raise_of_fixed {k : EventKind} (hk : k.fixed = true) (x : Subject) (d : List Byte) (s : State) :
    s.raise k x d = s.modClp (Clp.enqueue ⟨k, 3, s.now, x, d⟩) := by
  have hlevel : s.clp.eventLevel k 0 = 3 := if_pos hk
  unfold State.raise State.raiseAtLeast
  rw [hlevel, if_neg (by decide)]

/-! ## A demanded all-call (R115) -/

/-- Where an all-call demanded now stands: queued with a free slot, else waiting from now. -/
def State.callDemanded (s : State) : AllCall := if s.psc.broadcast.length < 2 then .queued else .waiting s.now

/-- The broadcast outbox once an alarm's all-call has been demanded now. -/
def State.broadcastDemanded (a : Nat) (s : State) : List CallEntry :=
  if s.psc.broadcast.length < 2 then s.psc.broadcast ++ [⟨a, s.now, false⟩] else s.psc.broadcast

/-- The broadcast outbox and the alarm's record are all that a demand writes. -/
theorem demandCall_eq (a : Nat) (s : State) :
    s.demandCall a = { s with
      als.alarms := update (fun q => q.id == a) (fun q => { q with allCall := s.callDemanded }) s.als.alarms
      psc.broadcast := s.broadcastDemanded a } := by
  unfold State.demandCall State.broadcastDemanded State.callDemanded
  by_cases hfree : s.psc.broadcast.length < 2
  · rw [if_pos (show _ < Config.maxBroadcast from hfree), if_pos hfree, if_pos hfree]
    rfl
  · rw [if_neg (show ¬ _ < Config.maxBroadcast from hfree), if_neg hfree, if_neg hfree]
    rfl

/-! ## A window end (R113, R114) -/

/-- An alarm's record behind a window end: UNANSWERED, its new window, one more passed, and where its all-call stands. -/
def AlarmRec.windowPassed (newEnd : Millis) (call : AllCall) (q : AlarmRec) : AlarmRec :=
  { q with stage := .unanswered, windowEnd := some newEnd, passed := satInc q.passed, allCall := call }

/-- The ALARM_UNANSWERED that a window end queues. -/
def State.unansweredEntry (r : AlarmRec) (s : State) : EventEntry :=
  ⟨.alarmUnanswered, 3, s.now, .alarm r.id,
    u16 r.worker ++ u8 r.unit ++ u8 r.slot ++ u8 r.causes.code ++ u8 r.raises ++ u16 (satInc r.passed)⟩

section

variable (r : AlarmRec) (s : State)

/-- A window end alone writes the queue and the alarm's record. -/
theorem passWindow_eq :
    s.passWindow r = { s with
      als.alarms := update (fun q => q.id == r.id) (fun q => q.windowPassed s.ackWindowEnd q.allCall) s.als.alarms
      clp := s.clp.enqueue (s.unansweredEntry r) } := by
  unfold State.passWindow
  rw [raise_of_fixed rfl]
  rfl

/-- A window end that demands an all-call writes the broadcast outbox besides. -/
theorem passWindow_demandCall_eq :
    (s.passWindow r).demandCall r.id = { s with
      als.alarms := update (fun q => q.id == r.id) (fun q => q.windowPassed s.ackWindowEnd s.callDemanded) s.als.alarms
      psc.broadcast := s.broadcastDemanded r.id
      clp := s.clp.enqueue (s.unansweredEntry r) } := by
  rw [demandCall_eq, passWindow_eq]
  simp only [update_update (p := fun q : AlarmRec => q.id == r.id)
    (f := fun q => q.windowPassed s.ackWindowEnd q.allCall) fun _ => rfl]
  rfl

end

section

variable {a e : Nat} {r : AlarmRec} {s : State}

/-- An alarm that waits for its acknowledgement waits on behind its window end, in the same unit. -/
theorem map_doubles_windowPassed (hids : (s.als.alarms.map AlarmRec.id).Nodup) (hr : s.alarm? r.id = some r)
    (hwaits : r.stage.waits = true) (m : Millis) (call : AlarmRec → AllCall) :
    (update (fun q => q.id == r.id) (fun q => q.windowPassed m (call q)) s.als.alarms).map AlarmRec.doubles
      = s.als.alarms.map AlarmRec.doubles := by
  refine map_update_of_mem _ fun q hq hqr => ?_
  obtain rfl := eq_of_alarm? hids hr hq (beq_iff_eq.1 hqr)
  exact Prod.ext rfl hwaits.symm

/-- A window end that demands an all-call leaves the double-poll set settled. -/
theorem doublePollOk_passWindow_demandCall (hids : (s.als.alarms.map AlarmRec.id).Nodup) (hd : s.doublePollOk)
    (hr : s.alarm? r.id = some r) (hwaits : r.stage.waits = true) :
    ((s.passWindow r).demandCall r.id).doublePollOk := by
  rw [passWindow_demandCall_eq]
  exact hd.of_doubles (map_doubles_windowPassed hids hr hwaits _ _)

/-- A window end that demands no all-call leaves the double-poll set settled. -/
theorem doublePollOk_passWindow (hids : (s.als.alarms.map AlarmRec.id).Nodup) (hd : s.doublePollOk)
    (hr : s.alarm? r.id = some r) (hwaits : r.stage.waits = true) : (s.passWindow r).doublePollOk := by
  rw [passWindow_eq]
  exact hd.of_doubles (map_doubles_windowPassed hids hr hwaits _ _)

/-- On a record that is UNANSWERED already, a window end writes its window, its count and its all-call only (R114). -/
theorem update_windowPassed_of_unanswered (hids : (s.als.alarms.map AlarmRec.id).Nodup) (hr : s.alarm? r.id = some r)
    (hstage : r.stage = .unanswered) (m : Millis) (call : AlarmRec → AllCall) :
    update (fun q => q.id == r.id) (fun q => q.windowPassed m (call q)) s.als.alarms
      = s.als.alarms.map (fun q => if q.id = r.id then
          { q with windowEnd := some m, passed := satInc q.passed, allCall := call r } else q) := by
  rw [update_alarm_eq_map]
  refine List.map_congr_left fun q hq => if_ctx_congr Iff.rfl (fun hqr => ?_) fun _ => rfl
  obtain rfl := eq_of_alarm? hids hr hq hqr
  unfold AlarmRec.windowPassed
  rw [hstage]

/-- Behind the window end of a RAISED alarm, SITE ALARM is asserted by that alarm itself (R113, R116). -/
theorem raisedWindowEnd_eq (hr : s.alarm? r.id = some r) :
    s.raisedWindowEnd r = { (s.passWindow r).demandCall r.id with als.siteAlarm := true } := by
  refine updateSiteAlarm_of_unanswered (q := r.windowPassed s.ackWindowEnd s.callDemanded) ?_ rfl
  rw [passWindow_demandCall_eq]
  exact mem_update.2 ⟨r, mem_of_alarm? hr, if_pos (beq_self_eq_true _)⟩

theorem reached_some (e : Millis) (s : State) : s.reached (some e) = true ↔ e ≤ s.now := decide_eq_true_iff

/-- The row of a RAISED alarm's window end, taken and too early (R113, log 5). -/
theorem exec_ackWindowEndRaised (hr : s.alarm? a = some r) (hstage : r.stage = .raised) (hend : r.windowEnd = some e) :
    exec (.ackWindowEndRaised a) s = .next (if e ≤ s.now then (s.raisedWindowEnd r).settle else s) := by
  change execAckWindowEndRaised a s = _
  simp only [execAckWindowEndRaised, hr, hstage, hend, reached_some, true_and, apply_ite Host.Outcome.next]

/-- The row of an UNANSWERED alarm's window end, taken and too early (R114, log 5). -/
theorem exec_ackWindowEndUnanswered (hr : s.alarm? a = some r) (hstage : r.stage = .unanswered)
    (hend : r.windowEnd = some e) :
    exec (.ackWindowEndUnanswered a) s = .next (if e ≤ s.now then (s.unansweredWindowEnd r).settle else s) := by
  change execAckWindowEndUnanswered a s = _
  simp only [execAckWindowEndUnanswered, hr, hstage, hend, reached_some, true_and, apply_ite Host.Outcome.next]

end

/-- Settles O48: the window end writes the alarm's record, the broadcast outbox, the queue and SITE ALARM, and the alarm
waits on, so settling changes nothing. -/
theorem raisedWindowEnd : Obligations.RaisedWindowEnd := by
  intro a e r s hids hd hr hstage hend
  obtain rfl := id_of_alarm? hr
  rw [exec_ackWindowEndRaised hr hstage hend]
  refine ⟨fun htaken => ?_, fun hearly => by rw [if_neg (Nat.not_le.2 hearly)]⟩
  have hsettled : (s.raisedWindowEnd r).doublePollOk := by
    rw [raisedWindowEnd_eq hr]
    exact doublePollOk_passWindow_demandCall hids hd hr (by rw [hstage]; rfl)
  rw [if_pos htaken, settle_of_doublePollOk _ hsettled, raisedWindowEnd_eq hr, passWindow_demandCall_eq,
    update_alarm_eq_map]
  rfl

/-- Settles O49: as O48 in a record that is UNANSWERED already, with the all-call demanded only where none stands. -/
theorem unansweredWindowEnd : Obligations.UnansweredWindowEnd := by
  intro a e r s hids hd hr hstage hend
  obtain rfl := id_of_alarm? hr
  have hwaits : r.stage.waits = true := by rw [hstage]; rfl
  rw [exec_ackWindowEndUnanswered hr hstage hend]
  refine ⟨fun htaken hcall => ?_, fun htaken hcall => ?_, fun hearly => by rw [if_neg (Nat.not_le.2 hearly)]⟩
  · have hdemands : s.unansweredWindowEnd r = (s.passWindow r).demandCall r.id := if_pos (beq_iff_eq.2 hcall)
    rw [if_pos htaken, hdemands, settle_of_doublePollOk _ (doublePollOk_passWindow_demandCall hids hd hr hwaits),
      passWindow_demandCall_eq, update_windowPassed_of_unanswered hids hr hstage]
    rfl
  · have hkeeps : s.unansweredWindowEnd r = s.passWindow r := if_neg (mt beq_iff_eq.1 hcall)
    rw [if_pos htaken, hkeeps, settle_of_doublePollOk _ (doublePollOk_passWindow hids hd hr hwaits), passWindow_eq,
      update_windowPassed_of_unanswered hids hr hstage]
    rfl

end Sys2Proof.Machine
end

section
/-! PROOFS. The report queue: what queueing an entry does to a queue with room and to a full one (R167). -/

namespace Sys2Proof.Machine

/-! ## The oldest entry of a level -/

/-- Where a level is present, its oldest entry is the one found and the one removed. -/
theorem exists_oldest_of_level {q : List EventEntry} {l : Nat} (h : ∃ y ∈ q, y.level = l) :
    ∃ before x after, q = before ++ x :: after ∧ x.level = l ∧ (∀ y ∈ before, y.level ≠ l)
      ∧ q.find? (fun y => y.level == l) = some x ∧ removeFirst (fun y => y.level == l) q = before ++ after := by
  obtain ⟨y, hy, hlevel⟩ := h
  have hsome : (q.find? fun y => y.level == l).isSome := List.find?_isSome.2 ⟨y, hy, beq_iff_eq.2 hlevel⟩
  obtain ⟨x, hfound⟩ := Option.isSome_iff_exists.1 hsome
  obtain ⟨before, after, hq, hrest, hbefore, hx⟩ := removeFirst_eq_of_find?_some _ q x hfound
  exact ⟨before, x, after, hq, beq_iff_eq.1 hx, fun y hy => beq_eq_false_iff_ne.1 (hbefore y hy), hfound, hrest⟩

/-! ## The lowest level present -/

section

variable {q : List EventEntry} {l : Nat}

theorem lowestLevel_cons (x : EventEntry) (q : List EventEntry) :
    lowestLevel (x :: q) = min x.level (lowestLevel q) := rfl

/-- Up to 4, the figure of an empty queue, what bounds the lowest level present bounds every entry's. -/
theorem le_lowestLevel_iff (hl : l ≤ 4) : l ≤ lowestLevel q ↔ ∀ x ∈ q, l ≤ x.level := by
  induction q with
  | nil => simpa [lowestLevel] using hl
  | cons x q ih => rw [lowestLevel_cons, le_min_iff, ih, List.forall_mem_cons]

theorem lowestLevel_lt_iff (hl : l ≤ 4) : lowestLevel q < l ↔ ∃ x ∈ q, x.level < l := by
  rw [← not_le, le_lowestLevel_iff hl]
  push Not
  rfl

theorem lowestLevel_le_of_mem {x : EventEntry} (hx : x ∈ q) : lowestLevel q ≤ x.level := by
  induction q with
  | nil => cases hx
  | cons y q ih =>
    rw [lowestLevel_cons]
    rcases List.mem_cons.1 hx with rfl | hx
    · exact min_le_left ..
    · exact (min_le_right ..).trans (ih hx)

/-- The lowest level of a queue that holds an entry below 4 is the level of an entry. -/
theorem exists_level_eq_lowestLevel (h : lowestLevel q < 4) : ∃ x ∈ q, x.level = lowestLevel q := by
  obtain ⟨x, hx, hlow⟩ := (lowestLevel_lt_iff h).1 (Nat.lt_succ_self _)
  exact ⟨x, hx, le_antisymm (Nat.le_of_lt_succ hlow) (lowestLevel_le_of_mem hx)⟩

end

/-! ## Queueing an entry -/

section

variable {c : Clp} {e : EventEntry}

theorem enqueue_of_room (h : c.queue.length < 48) :
    c.enqueue e = { c with queue := c.queue ++ [e], attn := true } := if_pos h

/-- A full queue that holds an entry of a lower level gives up its oldest of the lowest level. -/
theorem enqueue_of_lower (hfull : 48 ≤ c.queue.length) (he : e.level ≤ 3) (hlower : ∃ x ∈ c.queue, x.level < e.level) :
    ∃ before x after, c.queue = before ++ x :: after ∧ (∀ y ∈ c.queue, x.level ≤ y.level)
      ∧ (∀ y ∈ before, y.level ≠ x.level)
      ∧ c.enqueue e = { c with
          queue := before ++ after ++ [e], attn := true, lost := min 65535 (c.lost + 1)
          highestLost := max c.highestLost x.level } := by
  have hlow : lowestLevel c.queue < e.level := (lowestLevel_lt_iff (he.trans (by decide))).2 hlower
  obtain ⟨before, x, after, hq, hx, hbefore, -, hrest⟩ :=
    exists_oldest_of_level (exists_level_eq_lowestLevel (hlow.trans_le (he.trans (by decide))))
  refine ⟨before, x, after, hq, fun y hy => hx ▸ lowestLevel_le_of_mem hy, hx ▸ hbefore, ?_⟩
  unfold Clp.enqueue
  rw [if_neg (show ¬ _ < Config.maxQueue from Nat.not_lt.2 hfull), if_pos hlow, hrest, hx]
  rfl

/-- A full queue that holds no entry of a lower level discards the new entry. -/
theorem enqueue_of_none_lower (hfull : 48 ≤ c.queue.length) (he : e.level ≤ 3)
    (hnone : ∀ x ∈ c.queue, e.level ≤ x.level) :
    c.enqueue e = { c with lost := min 65535 (c.lost + 1), highestLost := max c.highestLost e.level } := by
  have hlow : ¬ lowestLevel c.queue < e.level := Nat.not_lt.2 ((le_lowestLevel_iff (he.trans (by decide))).2 hnone)
  unfold Clp.enqueue
  rw [if_neg (show ¬ _ < Config.maxQueue from Nat.not_lt.2 hfull), if_neg hlow]
  rfl

/-- A full queue stays as long as it is: the entry it gives up makes room for the new one, or the new one is lost. -/
theorem length_enqueue_of_full (hfull : 48 ≤ c.queue.length) (he : e.level ≤ 3) :
    (c.enqueue e).queue.length = c.queue.length := by
  by_cases hlower : ∃ x ∈ c.queue, x.level < e.level
  · obtain ⟨before, x, after, hq, -, -, heq⟩ := enqueue_of_lower hfull he hlower
    rw [heq, hq]
    simp
  · rw [enqueue_of_none_lower hfull he (by simpa using hlower)]

end

/-- Settles O11: the three clauses are the three cases of queueing an entry, and none makes a queue of 48 longer. -/
theorem queueKeepsTheHighest : Obligations.QueueKeepsTheHighest := by
  intro e c hlevel
  obtain ⟨-, he⟩ := hlevel
  refine ⟨enqueue_of_room, fun hfull => enqueue_of_lower hfull he, fun hfull => enqueue_of_none_lower hfull he,
    fun hlen => ?_⟩
  rcases hlen.lt_or_eq with hroom | hfull
  · rw [enqueue_of_room hroom, List.length_append]
    exact hroom
  · exact ((length_enqueue_of_full hfull.ge he).trans hfull).le

end Sys2Proof.Machine
end

section
/-! PROOFS. What an idle line does with a request whose owner writes the link's records only; and COLLECT EVENTS
(R169, R170). -/

namespace Sys2Proof.Machine

/-! ## A request that changes the link's records -/

/-- An owner's change of the link's records, blind to the frame being heard, leaves a settled part settled: it stands
with the reply on the line. -/
theorem requestArrives_of_answer_modClp {s : State} {r : Request} {o : ReplyOutcome} {body : List Byte} {f : Clp → Clp}
    (h : s.lineIdle) (hd : s.doublePollOk) (ha : s.heardOut.answer r = (s.heardOut.modClp f, o, body))
    (hf : ∀ c : Clp, f { c with inFrame := false } = { f c with inFrame := false }) (tag : Byte) :
    s.requestArrives tag r = (s.modClp f).replied r.kindCode tag o body := by
  have horder : s.clp.order = [] := h.2.2
  have hheard : s.heardOut = s.modClp (fun c => { c with inFrame := false }) := by
    simp only [State.heardOut, State.modClp, ← horder]
  have hsettled : (s.heardOut.modClp f).settle = s.heardOut.modClp f := settle_of_doublePollOk _ hd
  rw [requestArrives_of_answer h ha, hsettled, hheard]
  simp only [State.modClp, State.replied, hf]

/-! ## The highest level present -/

section

variable {q : List EventEntry}

theorem highestLevel_cons (x : EventEntry) (q : List EventEntry) :
    highestLevel (x :: q) = max x.level (highestLevel q) := rfl

theorem le_highestLevel_of_mem {x : EventEntry} (hx : x ∈ q) : x.level ≤ highestLevel q := by
  induction q with
  | nil => cases hx
  | cons y q ih =>
    rw [highestLevel_cons]
    rcases List.mem_cons.1 hx with rfl | hx
    · exact le_max_left ..
    · exact (ih hx).trans (le_max_right ..)

/-- The highest level of a queue that is not empty is the level of an entry. -/
theorem exists_level_eq_highestLevel (h : q ≠ []) : ∃ x ∈ q, x.level = highestLevel q := by
  induction q with
  | nil => exact absurd rfl h
  | cons x q ih =>
    rw [highestLevel_cons]
    by_cases hq : highestLevel q ≤ x.level
    · exact ⟨x, List.mem_cons_self .., (max_eq_left hq).symm⟩
    · have hne : q ≠ [] := fun hnil => hq (hnil ▸ Nat.zero_le _)
      obtain ⟨y, hy, hlevel⟩ := ih hne
      exact ⟨y, List.mem_cons_of_mem _ hy, hlevel.trans (max_eq_right (Nat.le_of_not_le hq)).symm⟩

end

/-! ## The order of collection -/

/-- The entries of a level, oldest first. -/
def atLevel (l : Nat) (q : List EventEntry) : List EventEntry := q.filter (fun e => e.level == l)

/-- The queue in the order COLLECT EVENTS takes it: the highest level first and within a level the oldest (R169). -/
def ranked (q : List EventEntry) : List EventEntry := atLevel 3 q ++ atLevel 2 q ++ atLevel 1 q

section

variable {before after : List EventEntry} {x : EventEntry} {l : Nat}

theorem atLevel_eq_nil_of_lt {q : List EventEntry} (h : ∀ y ∈ q, y.level < l) : atLevel l q = [] :=
  List.filter_eq_nil_iff.2 fun y hy => by simpa using (h y hy).ne

/-- The oldest entry of its level is the first of the entries of that level. -/
theorem atLevel_of_oldest (hbefore : ∀ y ∈ before, y.level ≠ x.level) :
    atLevel x.level (before ++ x :: after) = x :: atLevel x.level (before ++ after) := by
  have hnone : before.filter (fun y => y.level == x.level) = [] :=
    List.filter_eq_nil_iff.2 fun y hy => by simpa using hbefore y hy
  simp [atLevel, hnone]

theorem atLevel_of_other (h : x.level ≠ l) : atLevel l (before ++ x :: after) = atLevel l (before ++ after) := by
  simp [atLevel, h]

/-- The oldest entry of the highest level present comes first, and the rest stand in the same order without it. -/
theorem ranked_of_oldest_highest (hlevel : within 1 3 x.level) (hbefore : ∀ y ∈ before, y.level ≠ x.level)
    (hhighest : ∀ y ∈ before ++ x :: after, y.level ≤ x.level) :
    ranked (before ++ x :: after) = x :: ranked (before ++ after) := by
  have habove : ∀ l, x.level < l → atLevel l (before ++ after) = [] := fun l hl =>
    atLevel_of_other hl.ne ▸ atLevel_eq_nil_of_lt fun y hy => (hhighest y hy).trans_lt hl
  have hfirst := atLevel_of_oldest (after := after) hbefore
  unfold ranked
  obtain h | h | h : x.level = 3 ∨ x.level = 2 ∨ x.level = 1 := by unfold within at hlevel; omega
  · rw [h] at hfirst
    rw [hfirst, atLevel_of_other (l := 2) (by omega), atLevel_of_other (l := 1) (by omega)]
    rfl
  · rw [h] at hfirst
    rw [hfirst, atLevel_of_other (l := 3) (by omega), atLevel_of_other (l := 1) (by omega), habove 3 (by omega)]
    rfl
  · rw [h] at hfirst
    rw [hfirst, atLevel_of_other (l := 3) (by omega), atLevel_of_other (l := 2) (by omega), habove 3 (by omega),
      habove 2 (by omega)]
    rfl

end

/-! ## Collecting entries -/

section

variable {q : List EventEntry}

theorem collect_nil (n : Nat) : collect n [] = ([], []) := by cases n <;> rfl

/-- Collecting from a queue that is not empty takes the oldest entry of the highest level, then goes on without it. -/
theorem collect_succ (n : Nat) (h : q ≠ []) :
    ∃ before x after, q = before ++ x :: after ∧ (∀ y ∈ before, y.level ≠ x.level) ∧ (∀ y ∈ q, y.level ≤ x.level)
      ∧ collect (n + 1) q = (x :: (collect n (before ++ after)).1, (collect n (before ++ after)).2) := by
  obtain ⟨before, x, after, hq, hx, hbefore, hfound, hrest⟩ := exists_oldest_of_level (exists_level_eq_highestLevel h)
  refine ⟨before, x, after, hq, hx ▸ hbefore, fun y hy => hx ▸ le_highestLevel_of_mem hy, ?_⟩
  rw [collect, hfound, hrest]

/-- The entries collected are the first of the queue in the order of collection. -/
theorem collect_taken (n : Nat) (hlevels : ∀ e ∈ q, within 1 3 e.level) : (collect n q).1 = (ranked q).take n := by
  induction n generalizing q with
  | zero => rfl
  | succ n ih =>
    by_cases hnil : q = []
    · rw [hnil, collect_nil]
      rfl
    · obtain ⟨before, x, after, rfl, hbefore, hhighest, hcollect⟩ := collect_succ n hnil
      rw [hcollect, ranked_of_oldest_highest (hlevels x (by simp)) hbefore hhighest, List.take_succ_cons,
        ih fun e he => hlevels e (((List.sublist_cons_self ..).append_left before).subset he)]

/-- Every entry is collected or left. -/
theorem collect_perm (n : Nat) (q : List EventEntry) : ((collect n q).1 ++ (collect n q).2).Perm q := by
  induction n generalizing q with
  | zero => exact .refl _
  | succ n ih =>
    by_cases hnil : q = []
    · rw [hnil, collect_nil]
      exact .refl _
    · obtain ⟨before, x, after, rfl, -, -, hcollect⟩ := collect_succ n hnil
      rw [hcollect]
      exact ((ih _).cons x).trans List.perm_middle.symm

/-- The entries left stand in the order they had. -/
theorem collect_left_sublist (n : Nat) (q : List EventEntry) : (collect n q).2.Sublist q := by
  induction n generalizing q with
  | zero => exact .refl _
  | succ n ih =>
    by_cases hnil : q = []
    · rw [hnil, collect_nil]
    · obtain ⟨before, x, after, rfl, -, -, hcollect⟩ := collect_succ n hnil
      rw [hcollect]
      exact (ih _).trans ((List.sublist_cons_self ..).append_left before)

end

/-! ## COLLECT EVENTS -/

/-- The link's records behind COLLECT EVENTS: the entries left, ATTN with them, and no loss on record (R169, R170). -/
def Clp.collected (left : List EventEntry) (c : Clp) : Clp :=
  { c with queue := left, attn := !left.isEmpty, lost := 0, highestLost := 0 }

theorem answer_collectEvents (s : State) :
    s.answer .collectEvents = (s.modClp (Clp.collected (collect 8 s.clp.queue).2), .ok,
      listBytes EventEntry.bytes (collect 8 s.clp.queue).1 ++ u8 (collect 8 s.clp.queue).2.length ++ u16 s.clp.lost
        ++ u8 s.clp.highestLost) := rfl

/-- Settles O12: what is taken and what is left are those of collecting 8, and the owner's answer goes on the line. -/
theorem collectEvents : Obligations.CollectEvents := by
  intro tag s hidle hd hlevels
  refine ⟨(collect 8 s.clp.queue).1, (collect 8 s.clp.queue).2, collect_taken 8 hlevels, collect_perm 8 _,
    collect_left_sublist 8 _, ?_⟩
  exact congrArg Host.Outcome.next
    (requestArrives_of_answer_modClp hidle hd (answer_collectEvents s.heardOut) (fun _ => rfl) tag)

end Sys2Proof.Machine
end

section
/-! PROOFS. SET EVENT LEVELS (R168): which lists it refuses, and what a list sets. -/

namespace Sys2Proof.Machine

/-! ## The kinds of R168 and their codes -/

theorem mem_all_eventKinds (k : EventKind) : k ∈ EventKind.all := by cases k <;> decide

theorem nodup_all_eventKinds : EventKind.all.Nodup := by decide

/-- The kind of a code is the one that has it. -/
theorem eventKindOf_eq_some_iff {code : Nat} {k : EventKind} : eventKindOf code = some k ↔ k.code = code := by
  unfold eventKindOf ofCode EventKind.code EventKind.index
  constructor
  · intro h
    split at h
    case isTrue => cases h
    case isFalse hzero =>
      obtain ⟨hlt, rfl⟩ := List.getElem?_eq_some_iff.1 h
      rw [nodup_all_eventKinds.idxOf_getElem]
      omega
  · rintro rfl
    rw [if_neg (Nat.succ_ne_zero _)]
    exact List.getElem?_idxOf (mem_all_eventKinds k)

/-- The codes name no kind outside 1 to 42. -/
theorem eventKindOf_eq_none_iff {code : Nat} : eventKindOf code = none ↔ ¬ within 1 42 code := by
  have hcount : EventKind.all.length = 42 := rfl
  unfold eventKindOf ofCode within
  split
  case isTrue hzero => simp [hzero]
  case isFalse hzero =>
    rw [List.getElem?_eq_none_iff, hcount]
    omega

/-! ## Refused and accepted lists -/

/-- The pairs that SET EVENT LEVELS accepts: a known kind, a level up to 3, and 3 for a fixed kind (R168). -/
def SoundPair (p : Nat × Nat) : Prop :=
  (within 1 42 p.1 ∧ p.2 ≤ 3) ∧ ∀ k : EventKind, k.code = p.1 → k.fixed = true → p.2 = 3

theorem badPair_eq_false_iff (p : Nat × Nat) : badPair p = false ↔ SoundPair p := by
  unfold badPair SoundPair
  cases hkind : eventKindOf p.1 with
  | none => simp [eventKindOf_eq_none_iff.1 hkind]
  | some k =>
    have hknown : within 1 42 p.1 := by
      by_contra hunknown
      rw [eventKindOf_eq_none_iff.2 hunknown] at hkind
      cases hkind
    have hthis : ∀ j : EventKind, j.code = p.1 ↔ j = k := fun j => by
      rw [← eventKindOf_eq_some_iff, hkind, Option.some.injEq, eq_comm]
    simp [hknown, hthis]

/-- The lists that SET EVENT LEVELS accepts (R168). -/
def SoundLevels (pairs : List (Nat × Nat)) : Prop :=
  within 1 64 pairs.length ∧ (∀ p ∈ pairs, within 1 42 p.1 ∧ p.2 ≤ 3)
    ∧ (∀ p ∈ pairs, ∀ k : EventKind, k.code = p.1 → k.fixed = true → p.2 = 3) ∧ (pairs.map Prod.fst).Nodup

/-- The test that SET EVENT LEVELS makes finds exactly the lists that R168 does not accept. -/
theorem eventLevels_test_iff_not_soundLevels (pairs : List (Nat × Nat)) :
    (pairs.length < 1 || 64 < pairs.length || pairs.any badPair || !distinct (pairs.map Prod.fst)) = true
      ↔ ¬ SoundLevels pairs := by
  have hcount : within 1 64 pairs.length ↔ ¬ pairs.length < 1 ∧ ¬ 64 < pairs.length := by
    simp only [within, not_lt]
  have hpairs : (∀ p ∈ pairs, badPair p = false) ↔ (∀ p ∈ pairs, within 1 42 p.1 ∧ p.2 ≤ 3)
      ∧ ∀ p ∈ pairs, ∀ k : EventKind, k.code = p.1 → k.fixed = true → p.2 = 3 := by
    simp only [badPair_eq_false_iff, SoundPair, forall₂_and]
  rw [← Bool.not_eq_false, not_iff_not, SoundLevels, hcount, ← and_assoc (a := ∀ p ∈ pairs, _), ← hpairs]
  simp [distinct, and_assoc]

/-! ## Setting the levels of a list -/

/-- The levels held once a list of pairs has been set. -/
def setLevels (pairs : List (Nat × Nat)) (levels : List Nat) : List Nat := pairs.foldl setLevel levels

section

variable {pairs : List (Nat × Nat)} {levels : List Nat}

theorem setLevels_cons (p : Nat × Nat) (pairs : List (Nat × Nat)) (levels : List Nat) :
    setLevels (p :: pairs) levels = setLevels pairs (levels.set (p.1 - 1) p.2) := rfl

theorem length_setLevels (pairs : List (Nat × Nat)) (levels : List Nat) :
    (setLevels pairs levels).length = levels.length := by
  induction pairs generalizing levels with
  | nil => rfl
  | cons p pairs ih => rw [setLevels_cons, ih, List.length_set]

/-- A kind that the list does not name keeps its level. -/
theorem getElem?_setLevels_of_not_named {n : Nat} (hcodes : ∀ p ∈ pairs, 1 ≤ p.1) (hn : n + 1 ∉ pairs.map Prod.fst) :
    (setLevels pairs levels)[n]? = levels[n]? := by
  induction pairs generalizing levels with
  | nil => rfl
  | cons p pairs ih =>
    obtain ⟨hp, hpairs⟩ := List.forall_mem_cons.1 hcodes
    rw [List.map_cons, List.mem_cons, not_or] at hn
    obtain ⟨hother, hrest⟩ := hn
    rw [setLevels_cons, ih hpairs hrest, List.getElem?_set_ne (by omega)]

/-- A kind that the list names once has the level given. -/
theorem getElem?_setLevels_of_mem (hcodes : ∀ p ∈ pairs, within 1 levels.length p.1)
    (hnodup : (pairs.map Prod.fst).Nodup) : ∀ p ∈ pairs, (setLevels pairs levels)[p.1 - 1]? = some p.2 := by
  induction pairs generalizing levels with
  | nil => exact fun p hp => absurd hp List.not_mem_nil
  | cons q pairs ih =>
    obtain ⟨⟨hlow, hhigh⟩, hpairs⟩ := List.forall_mem_cons.1 hcodes
    obtain ⟨hfirst, hrest⟩ := List.nodup_cons.1 hnodup
    refine List.forall_mem_cons.2 ⟨?_, ?_⟩
    · have hlater : q.1 - 1 + 1 ∉ pairs.map Prod.fst := by rwa [Nat.sub_add_cancel hlow]
      rw [setLevels_cons, getElem?_setLevels_of_not_named (fun p hp => (hpairs p hp).1) hlater,
        List.getElem?_set_self (by omega)]
    · exact ih (levels := levels.set (q.1 - 1) q.2) (by simpa using hpairs) hrest

end

/-! ## SET EVENT LEVELS -/

theorem answer_setEventLevels (pairs : List (Nat × Nat)) (s : State) :
    s.answer (.setEventLevels pairs) = s.reqSetEventLevels pairs := rfl

theorem reqSetEventLevels_of_soundLevels {pairs : List (Nat × Nat)} (s : State) (h : SoundLevels pairs) :
    s.reqSetEventLevels pairs
      = (s.modClp (fun c => { c with levels := setLevels pairs s.clp.levels }), .ok,
        listBytes u8 (setLevels pairs s.clp.levels)) :=
  if_neg fun htest => (eventLevels_test_iff_not_soundLevels pairs).1 htest h

theorem reqSetEventLevels_of_not_soundLevels {pairs : List (Nat × Nat)} (s : State) (h : ¬ SoundLevels pairs) :
    s.reqSetEventLevels pairs = s.outOfRange 1 := if_pos ((eventLevels_test_iff_not_soundLevels pairs).2 h)

/-- An accepted SET EVENT LEVELS: the levels in force and the reply. -/
theorem exec_setEventLevels_of_soundLevels {pairs : List (Nat × Nat)} {s : State} (h : s.lineIdle) (hd : s.doublePollOk)
    (hsound : SoundLevels pairs) (tag : Byte) :
    exec (.setEventLevels tag pairs) s
      = .next (({ s with clp.levels := setLevels pairs s.clp.levels } : State).replied 0x15 tag .ok
        (listBytes u8 (setLevels pairs s.clp.levels))) :=
  congrArg Host.Outcome.next (requestArrives_of_answer_modClp h hd
    ((answer_setEventLevels ..).trans (reqSetEventLevels_of_soundLevels s.heardOut hsound)) (fun _ => rfl) tag)

/-- Settles O13: an accepted list sets each kind it names and no other, the rest are refused, and the table of R168. -/
theorem setEventLevels : Obligations.SetEventLevels := by
  refine ⟨?_, by decide, by decide, by decide⟩
  intro tag pairs s hidle hd hlen sound
  refine ⟨fun hsound : SoundLevels pairs => ?_, fun hrefused : ¬ SoundLevels pairs => ⟨u8 1, ?_⟩⟩
  · have ⟨_, hcodes, _, hnodup⟩ := hsound
    have hlength : (setLevels pairs s.clp.levels).length = 42 := (length_setLevels ..).trans hlen
    refine ⟨setLevels pairs s.clp.levels, hlength,
      getElem?_setLevels_of_mem (fun p hp => hlen.symm ▸ (hcodes p hp).1) hnodup,
      fun n hn => getElem?_setLevels_of_not_named (fun p hp => (hcodes p hp).1.1) hn, ?_⟩
    rw [exec_setEventLevels_of_soundLevels hidle hd hsound, listBytes, hlength]
  · exact congrArg Host.Outcome.next (requestArrives_of_answer_unchanged hidle hd
      ((answer_setEventLevels ..).trans (reqSetEventLevels_of_not_soundLevels s.heardOut hrefused)) tag)

end Sys2Proof.Machine
end

section
/-! PROOFS. The answers that no gate of the run state gives (R173): request by request, the run state is left alone and
the outcome is neither NOT_LOADING nor NOT_OPERATING. The proofs elaborate one after another, as those of the footprints
do, so that the text stays within the check's limit of threads. -/

set_option Elab.async false

namespace Sys2Proof.Machine

/-! ## What leaves the run state alone -/

/-- A change outside the run state, after changes that kept it. -/
theorem Touches.keeps {ps : List Part} {s t u : State} (h : Touches ps t u) (ht : t.runState = s.runState)
    (hp : .runState ∉ ps := by decide) : u.runState = s.runState :=
  (h .runState hp).trans ht

/-- A choice between two changes that keep the run state keeps it. -/
theorem ite_keeps {s a b : State} {c : Prop} [Decidable c] (ha : a.runState = s.runState)
    (hb : b.runState = s.runState) : (if c then a else b).runState = s.runState := by
  split
  · exact ha
  · exact hb

/-! ## Answers that no run state's gate gives -/

/-- The two outcomes by which a run state refuses a request (R173). -/
def ReplyOutcome.gates : ReplyOutcome → Bool
  | .notLoading | .notOperating => true
  | _ => false

/-- An answer that leaves the run state as it is, with an outcome that is not a run state's refusal (R173). -/
def Ungated (s : State) (x : Answer) : Prop := x.1.runState = s.runState ∧ x.2.1.gates = false

theorem Ungated.refuse {s : State} {o : ReplyOutcome} {b : List Byte} (h : o.gates = false := by rfl) :
    Ungated s (s.refuse o b) := ⟨rfl, h⟩

theorem Ungated.outOfRange {s : State} {n : Nat} : Ungated s (s.outOfRange n) := ⟨rfl, rfl⟩

theorem Ungated.accept {s t : State} {b : List Byte} (h : t.runState = s.runState) : Ungated s (t.accept b) := ⟨h, rfl⟩

theorem Ungated.ite {s : State} {c : Prop} [Decidable c] {x y : Answer} (hx : Ungated s x) (hy : Ungated s y) :
    Ungated s (if c then x else y) := by
  split
  · exact hx
  · exact hy

section

variable {s : State}

/-! ## The channel's requests and the part's own (R13, R32, R59, R60, R165 to R169) -/

theorem ungated_reqSetServiceLevel (l : Nat) : Ungated s (s.reqSetServiceLevel l) := by
  unfold State.reqSetServiceLevel
  split
  · exact .outOfRange
  · exact .accept rfl

theorem ungated_reqSetChannelTiming (v : TimingArg) : Ungated s (s.reqSetChannelTiming v) :=
  ⟨(touches_recomputeEstimateWith _ _).keeps rfl, by unfold State.reqSetChannelTiming; dsimp only; split <;> rfl⟩

theorem ungated_reqSetClassIntervals (v : IntervalsArg) : Ungated s (s.reqSetClassIntervals v) :=
  ⟨(Touches.foldl (fun s a => touches_recomputeHazard s a) _ _).keeps rfl,
    by unfold State.reqSetClassIntervals; dsimp only; split <;> rfl⟩

theorem ungated_reqSetStatusKeys (ks : List KeyArg) : Ungated s (s.reqSetStatusKeys ks) :=
  .ite .outOfRange (.accept rfl)

theorem ungated_reqSetEventLevels (ps : List (Nat × Nat)) : Ungated s (s.reqSetEventLevels ps) :=
  .ite .outOfRange (.accept rfl)

theorem ungated_reqCollectEvents : Ungated s s.reqCollectEvents := .accept rfl

theorem ungated_reqQueryPart : Ungated s s.reqQueryPart := .accept rfl

theorem ungated_reqQueryLink : Ungated s s.reqQueryLink := .accept rfl

/-! ## The roster and the crews (R22 to R26, R37, R85, R102 to R104) -/

theorem ungated_reqDefineUnit (v : UnitArg) : Ungated s (s.reqDefineUnit v) := by
  unfold State.reqDefineUnit
  split
  · exact .outOfRange
  · exact .ite .refuse (.ite .refuse (.accept ((touches_recomputeEstimate _).keeps rfl)))

theorem ungated_reqRemoveUnit (a : Nat) : Ungated s (s.reqRemoveUnit a) := by
  unfold State.reqRemoveUnit
  split
  · exact .refuse
  · split
    · exact .refuse
    · exact .accept ((touches_recomputeEstimate _).keeps rfl)

theorem ungated_reqSignOn (a : Nat) : Ungated s (s.reqSignOn a) := by
  unfold State.reqSignOn
  split
  · exact .refuse
  · refine .ite .refuse (.accept ((touches_chooseSending _ _).keeps ((touches_admit _ _).keeps (ite_keeps ?_ ?_))))
    · exact (Touches.foldl (fun s i => touches_enterOk s i _) _ _).keeps ((touches_recomputeEstimate _).keeps rfl)
    · exact (touches_recomputeEstimate _).keeps rfl

theorem ungated_reqSignOff (a : Nat) : Ungated s (s.reqSignOff a) := by
  unfold State.reqSignOff
  split
  · exact .refuse
  · refine .ite ?_ .refuse
    split
    · exact .refuse
    · exact .accept ((touches_signOff _ _).keeps rfl)

theorem ungated_reqQueryUnit (a : Nat) : Ungated s (s.reqQueryUnit a) := by
  unfold State.reqQueryUnit
  refine .ite (.accept rfl) ?_
  split
  · exact .refuse
  · exact .accept rfl

theorem ungated_reqDefineWorker (w a : Nat) : Ungated s (s.reqDefineWorker w a) := by
  unfold State.reqDefineWorker
  refine .ite .outOfRange (.ite .outOfRange ?_)
  split
  · exact .refuse
  · exact .ite .refuse (.ite .refuse (.accept (ite_keeps ((touches_enterOk _ _ _).keeps rfl) rfl)))

theorem ungated_reqMoveWorker (w a : Nat) : Ungated s (s.reqMoveWorker w a) := by
  unfold State.reqMoveWorker
  split
  · exact .refuse
  · exact .refuse
  · refine .ite .refuse (.ite .refuse (.ite .refuse (.accept (ite_keeps ?_ (ite_keeps ?_ ?_)))))
    · exact (touches_enterInactive _ _).keeps ((touches_recomputeWorker _ _).keeps rfl)
    · exact (touches_enterOk _ _ _).keeps ((touches_recomputeWorker _ _).keeps rfl)
    · exact (touches_recomputeWorker _ _).keeps rfl

theorem ungated_reqRemoveWorker (w : Nat) : Ungated s (s.reqRemoveWorker w) := by
  unfold State.reqRemoveWorker
  split
  · exact .refuse
  · exact .ite .refuse (.accept ((touches_dropPrompt _ _).keeps rfl))

theorem ungated_reqQueryWorker (x : Selector) : Ungated s (s.reqQueryWorker x) := by
  unfold State.reqQueryWorker
  split
  all_goals
    split
    · exact .refuse
    · exact .accept rfl

/-! ## Orders (R63, R78, R79, R83) -/

theorem badLink_gates {v : OrderArg} {o : ReplyOutcome} {b : List Byte} (h : s.badLink v = some (o, b)) :
    o.gates = false := by
  unfold State.badLink at h
  split_ifs at h
  split at h
  · cases h
    rfl
  · split_ifs at h
    cases h
    rfl

/-- A code names a value of a list exactly when it stands within the list's length. -/
theorem isNone_ofCode_iff {α : Type} (values : List α) (code : Nat) :
    (ofCode values code).isNone = true ↔ ¬ within 1 values.length code := by
  unfold ofCode within
  split
  · simp_all
  · rw [Option.isNone_iff_eq_none, List.getElem?_eq_none_iff]
    omega

/-- The starting states are POSTED, for a code of 0 or 1, and those of the codes 2 to 5 (R63). -/
theorem isNone_startState_iff (code : Nat) : (startState code).isNone = true ↔ 5 < code := by
  unfold startState
  split
  · simp_all
  · rw [isNone_ofCode_iff, startStates, within]
    simp only [List.length_cons, List.length_nil]
    omega

theorem startState_eq_posted_iff (code : Nat) : startState code = some .posted ↔ code ≤ 1 := by
  match code with
  | 0 | 1 | 2 | 3 | 4 | 5 => decide
  | n + 6 => simp [startState, ofCode, startStates]

/-- No field of POST ORDER is out of its range (R63 check 1). -/
theorem orderBadField_eq_none_iff (v : OrderArg) :
    orderBadField v = none ↔ within 1 239 v.unit ∧ within 1 3 v.priority ∧ within 1 4 v.hazard
      ∧ within 1 240 v.text.length ∧ v.start ≤ 5 := by
  unfold orderBadField
  simp only [isNone_ofCode_iff, isNone_startState_iff, Priority.all, Hazard.all, List.length_cons, List.length_nil,
    within]
  split_ifs <;> simp only [false_iff, true_iff] <;> omega

/-- POST ORDER past the gate of its starting state (R63). -/
theorem ungated_reqPostOrder {v : OrderArg} (h : within 2 5 v.start → s.runState = .loading) :
    Ungated s (s.reqPostOrder v) := by
  unfold State.reqPostOrder
  split
  · exact .outOfRange
  next hfields =>
    have hopen : startState v.start = some .posted ∨ s.runState = .loading := by
      obtain ⟨-, -, -, -, hmax⟩ := (orderBadField_eq_none_iff v).1 hfields
      rw [startState_eq_posted_iff, or_iff_not_imp_left]
      exact fun hmin => h ⟨by omega, hmax⟩
    rw [if_neg (by rcases hopen with h | h <;> simp [h])]
    refine .ite .refuse (.ite .refuse ?_)
    split
    next hlink => exact .refuse (badLink_gates hlink)
    · refine .ite .refuse (.accept (ite_keeps ((touches_chooseSending _ _).keeps ?_) ?_))
      all_goals exact (touches_raiseOrderState _ _ _ _ _ _ _).keeps rfl

theorem ungated_reqRecallOrder (n : Nat) : Ungated s (s.reqRecallOrder n) := by
  unfold State.reqRecallOrder
  split
  · exact .refuse
  · split
    · exact .accept ((touches_endOrder _ _ _ _).keeps rfl)
    · split
      · exact .refuse
      · refine .ite (.accept ?_) .refuse
        exact (touches_raiseRecallUndelivered _ _ _).keeps ((touches_endOrder _ _ _ _).keeps rfl)
    · refine .accept (ite_keeps ((touches_chooseSending _ _).keeps ?_) ?_)
      all_goals exact (touches_moveOrder _ _ _ _ _ _).keeps rfl

theorem ungated_reqRelinkOrder (n p : Nat) : Ungated s (s.reqRelinkOrder n p) := by
  unfold State.reqRelinkOrder
  split
  · exact .refuse
  · refine .ite .refuse ?_
    split
    · exact .refuse
    · refine .ite .refuse (.accept ?_)
      split
      · exact (touches_chooseSending _ _).keeps ((touches_moveOrder _ _ _ _ _ _).keeps rfl)
      · exact (touches_moveOrder _ _ _ _ _ _).keeps rfl
      · exact (touches_moveOrder _ _ _ _ _ _).keeps rfl
      · exact (touches_moveOrder _ _ _ _ _ _).keeps rfl
      · exact ite_keeps ((touches_moveOrder _ _ _ _ _ _).keeps rfl) ((touches_moveOrder _ _ _ _ _ _).keeps rfl)

theorem ungated_reqQueryOrder (x : Selector) : Ungated s (s.reqQueryOrder x) := by
  unfold State.reqQueryOrder
  split
  all_goals
    split
    · exact .refuse
    · exact .accept rfl

/-! ## Alarms (R110, R111, R119) -/

theorem ungated_reqAckAlarm (h : s.runState = .operating) (a c : Nat) : Ungated s (s.reqAckAlarm a c) := by
  unfold State.reqAckAlarm
  rw [if_neg (by simp [h])]
  refine .ite .outOfRange (.ite .outOfRange ?_)
  split
  · exact .refuse
  · refine .ite .refuse (.ite (.accept rfl) (.accept ?_))
    exact (touches_raise _ _ _ _).keeps ((touches_updateSiteAlarm _).keeps ((touches_withdrawCall _ _).keeps rfl))

theorem ungated_reqResolveAlarm (h : s.runState = .operating) (a : Nat) : Ungated s (s.reqResolveAlarm a) := by
  unfold State.reqResolveAlarm
  rw [if_neg (by simp [h])]
  refine .ite .outOfRange ?_
  split
  · exact .refuse
  · exact .ite .refuse (.accept ((touches_enterOk _ _ _).keeps ((touches_raise _ _ _ _).keeps rfl)))

theorem ungated_reqQueryAlarms (a : Nat) : Ungated s (s.reqQueryAlarms a) := by
  unfold State.reqQueryAlarms
  refine .ite (.accept rfl) ?_
  split
  · exact .refuse
  · exact .accept rfl

/-! ## Devices and steps (R121, R126, R131, R133, R136 to R138) -/

theorem ungated_reqDefineDevice (n k : Nat) (m : List Byte) (p : Nat) : Ungated s (s.reqDefineDevice n k m p) := by
  unfold State.reqDefineDevice
  refine .ite .outOfRange ?_
  split
  · exact .outOfRange
  · refine .ite .outOfRange ?_
    split
    · exact .outOfRange
    · exact .ite .refuse (.ite .refuse (.accept rfl))

theorem abortForPosition_keeps (d : DeviceRec) : (s.abortForPosition d).1.runState = s.runState := by
  unfold State.abortForPosition
  split
  · rfl
  · split
    · exact (touches_abortStep _ _ _).keeps rfl
    · rfl

theorem ungated_reqSetPosition (d p : Nat) : Ungated s (s.reqSetPosition d p) := by
  unfold State.reqSetPosition
  refine .ite .outOfRange ?_
  split
  · exact .outOfRange
  · split
    · exact .refuse
    · split
      · exact .refuse
      · refine .accept ((touches_checkViolation _ _ _).keeps ((touches_recordPosition _ _ _ _ _).keeps ?_))
        exact abortForPosition_keeps _

theorem ungated_reqQueryDevice (d : Nat) : Ungated s (s.reqQueryDevice d) := by
  unfold State.reqQueryDevice
  refine .ite (.accept rfl) ?_
  split
  · exact .refuse
  · exact .accept rfl

theorem ungated_reqQueueStep (h : s.runState = .operating) (d op a : Nat) : Ungated s (s.reqQueueStep d op a) := by
  unfold State.reqQueueStep
  rw [if_neg (by simp [h])]
  refine .ite .outOfRange ?_
  split
  · exact .outOfRange
  · refine .ite .outOfRange ?_
    split
    · exact .refuse
    · exact .refuse
    · split
      · exact .refuse
      · refine .ite .refuse ?_
        split
        · exact .refuse
        · exact .ite .refuse (.accept (ite_keeps ((touches_becomeHead _ _).keeps rfl) rfl))

theorem ungated_reqConfirmStep (h : s.runState = .operating) (x : Nat) : Ungated s (s.reqConfirmStep x) := by
  unfold State.reqConfirmStep
  rw [if_neg (by simp [h])]
  refine .ite .outOfRange ?_
  split
  · exact .refuse
  · refine .ite .refuse ?_
    split
    · exact .refuse
    · exact .accept ((touches_send _ _ _ _ _ _).keeps rfl)

theorem ungated_reqAbortStep (x : Nat) : Ungated s (s.reqAbortStep x) := by
  unfold State.reqAbortStep
  refine .ite .outOfRange ?_
  split
  · exact .refuse
  · exact .accept ((touches_abortStep _ _ _).keeps rfl)

theorem ungated_reqQuerySteps (a : Nat) : Ungated s (s.reqQuerySteps a) := by
  unfold State.reqQuerySteps
  refine .ite (.accept rfl) ?_
  split
  · exact .refuse
  · exact .accept rfl

/-! ## Permits (R140 to R157, R159) -/

theorem definitionRefusal_gates {v : PermitArg} {o : ReplyOutcome} {b : List Byte}
    (h : s.definitionRefusal v = some (o, b)) : o.gates = false := by
  unfold State.definitionRefusal at h
  split at h
  · cases h
    rfl
  · split at h
    · cases h
      rfl
    · split at h
      · cases h
        rfl
      · split_ifs at h
        cases h
        rfl

theorem pointRefusal_gates {i : Nat} {p : Point} {o : ReplyOutcome} {b : List Byte}
    (h : s.pointRefusal i p = some (o, b)) : o.gates = false := by
  unfold State.pointRefusal at h
  split at h
  · cases h
    rfl
  · split at h
    · cases h
      rfl
    · split at h
      · cases h
        rfl
      · split_ifs at h
        cases h
        rfl

theorem pointsRefusal_gates {i : Nat} {ps : List Point} {o : ReplyOutcome} {b : List Byte}
    (h : s.pointsRefusal i ps = some (o, b)) : o.gates = false := by
  induction ps generalizing i with
  | nil => cases h
  | cons p ps ih =>
    unfold State.pointsRefusal at h
    split at h
    next hp =>
      cases h
      exact pointRefusal_gates hp
    · exact ih h

theorem ungated_reqDefinePermit (v : PermitArg) : Ungated s (s.reqDefinePermit v) := by
  unfold State.reqDefinePermit
  split
  · exact .refuse
  · split
    next hr => exact .refuse (definitionRefusal_gates hr)
    · exact .accept ((touches_notePermitState _ _ _ _ _).keeps rfl)

theorem ungated_reqIssuePermit (p : Nat) : Ungated s (s.reqIssuePermit p) := by
  unfold State.reqIssuePermit
  split
  · exact .refuse
  · split
    · split
      next hr => exact .refuse (pointsRefusal_gates hr)
      · refine .accept ((touches_notePermitState _ _ _ _ _).keeps ((touches_sendOffers _ _).keeps ?_))
        exact (touches_modPermit _ _ _).keeps ((touches_tagPoints _ _ _).keeps rfl)
    · exact .accept ((touches_notePermitState _ _ _ _ _).keeps ((touches_sendOffers _ _).keeps rfl))
    · exact .refuse

theorem ungated_reqWithdrawPermit (p : Nat) : Ungated s (s.reqWithdrawPermit p) := by
  unfold State.reqWithdrawPermit
  split
  · exact .refuse
  · split
    · refine .accept ((touches_notePermitState _ _ _ _ _).keeps ((touches_sendNotices _ _ _ _).keeps ?_))
      exact (touches_modPermit _ _ _).keeps ((touches_untagPoints _ _ _).keeps rfl)
    · refine .accept ((touches_freePermit _ _).keeps ((touches_raisePermitState _ _ _ _ _ _).keeps ?_))
      exact (touches_toldClosed _ _ _).keeps ((touches_withdrawFrames _ _).keeps rfl)
    · exact .refuse

theorem ungated_reqSuspendPermit (p : Nat) : Ungated s (s.reqSuspendPermit p) := by
  unfold State.reqSuspendPermit
  split
  · exact .refuse
  · split
    · exact .accept ((touches_suspendPermit _ _ _).keeps rfl)
    · exact .accept ((touches_suspendPermit _ _ _).keeps rfl)
    · exact .accept ((touches_suspendPermit _ _ _).keeps rfl)
    · exact .refuse

theorem ungated_reqResumePermit (p : Nat) : Ungated s (s.reqResumePermit p) := by
  unfold State.reqResumePermit
  split
  · exact .refuse
  · refine .ite .refuse ?_
    split
    · exact .refuse
    · refine .ite (.accept rfl) (.ite (.accept ?_) (.accept ?_))
      · exact (touches_testActivation _ _ _).keeps rfl
      · exact (touches_notePermitState _ _ _ _ _).keeps rfl

theorem ungated_reqConfirmSurrender (p : Nat) : Ungated s (s.reqConfirmSurrender p) := by
  unfold State.reqConfirmSurrender
  split
  · exact .refuse
  · refine .ite .refuse ?_
    split
    · exact .refuse
    · exact .accept ((touches_closePermit _ _ _).keeps rfl)

theorem ungated_reqForceCancel (p : Nat) : Ungated s (s.reqForceCancel p) := by
  unfold State.reqForceCancel
  split
  · exact .refuse
  · refine .ite .refuse (.ite .refuse ?_)
    split
    · exact .refuse
    · exact .accept ((touches_closePermit _ _ _).keeps rfl)

theorem ungated_reqRestorePermit (h : s.runState = .loading) (v : PermitArg) (st : Nat) :
    Ungated s (s.reqRestorePermit v st) := by
  unfold State.reqRestorePermit
  rw [if_neg (by simp [h])]
  split
  · exact .refuse
  · exact .refuse
  · split
    next hr => exact .refuse (definitionRefusal_gates hr)
    · split
      next hr => exact .refuse (pointsRefusal_gates hr)
      · exact .accept ((touches_notePermitState _ _ _ _ _).keeps ((touches_tagPoints _ _ _).keeps rfl))

theorem ungated_reqQueryPermit (p : Nat) : Ungated s (s.reqQueryPermit p) := by
  unfold State.reqQueryPermit
  refine .ite (.accept rfl) ?_
  split
  · exact .refuse
  · exact .accept rfl

/-! ## The requests of LOADING and of OPERATING (R12, R13, R61, R175) -/

theorem ungated_reqSetRateTable (h : s.runState = .loading) (rates : List Nat) :
    Ungated s (s.reqSetRateTable rates) := by
  unfold State.reqSetRateTable
  rw [if_neg (by simp [h])]
  exact .ite .outOfRange (.accept ((touches_recomputeEstimate _).keeps rfl))

theorem ungated_reqSetSyncWords (h : s.runState = .loading) (a b : Half) : Ungated s (s.reqSetSyncWords a b) := by
  unfold State.reqSetSyncWords
  rw [if_neg (by simp [h])]
  exact .ite .outOfRange (.ite .outOfRange (.accept rfl))

theorem ungated_reqRestartRadio (h : s.runState = .operating) : Ungated s s.reqRestartRadio := by
  unfold State.reqRestartRadio
  rw [if_neg (by simp [h])]
  refine .accept ((touches_beginCycle _).keeps ((touches_recomputeEstimate _).keeps ?_))
  exact (touches_readyAll _).keeps rfl

end

end Sys2Proof.Machine
end

section
/-! PROOFS. The gates of the run state and the commands that change it (R173, R175, R172). -/

set_option Elab.async false

namespace Sys2Proof

/-- The requests refused NOT_OPERATING in LOADING (R173). -/
def Request.NeedsOperating : Request → Prop
  | .restartRadio | .ackAlarm _ _ | .resolveAlarm _ | .queueStep _ _ _ | .confirmStep _ => True
  | _ => False

/-- The requests refused NOT_LOADING in OPERATING; POST ORDER with a starting state other than POSTED (R173). -/
def Request.NeedsLoading : Request → Prop
  | .go | .setRateTable _ | .setSyncWords _ _ | .restorePermit _ _ => True
  | .postOrder v => Machine.within 2 5 v.start
  | _ => False

end Sys2Proof

namespace Sys2Proof.Machine

/-! ## The gates (R173) -/

section

variable {s : State} {r : Request}

/-- In LOADING the first check of a request that needs OPERATING refuses it. -/
theorem answer_of_loading (h : s.runState = .loading) (hr : r.NeedsOperating) :
    s.answer r = s.refuse .notOperating [] := by
  cases r with
  | restartRadio | ackAlarm _ _ | resolveAlarm _ | queueStep _ _ _ | confirmStep _ => exact if_pos (by simp [h])
  | _ => exact hr.elim

/-- In OPERATING a starting state other than POSTED is refused behind the check of the fields (R63). -/
theorem reqPostOrder_of_operating {v : OrderArg} (h : s.runState = .operating) (hv : orderBadField v = none)
    (hstart : 2 ≤ v.start) : s.reqPostOrder v = s.refuse .notLoading [] := by
  have hposted : startState v.start ≠ some .posted := by
    rw [Ne, startState_eq_posted_iff]
    omega
  unfold State.reqPostOrder
  rw [hv]
  exact if_pos (by simp [h, hposted])

/-- In OPERATING a request that needs LOADING is refused, POST ORDER once its fields have been checked. -/
theorem answer_of_operating (h : s.runState = .operating) (hr : r.NeedsLoading)
    (hv : ∀ v, r = .postOrder v → orderBadField v = none) : s.answer r = s.refuse .notLoading [] := by
  cases r with
  | go | setSyncWords _ _ | restorePermit _ _ => exact if_pos (by simp [h])
  | setRateTable rates => exact reqSetRateTable_of_operating rates s h
  | postOrder v => exact reqPostOrder_of_operating h (hv v rfl) hr.1
  | _ => exact hr.elim

/-- A request other than GO in a run state that does not refuse it. -/
theorem ungated_answer (hgo : r ≠ .go) (hop : r.NeedsOperating → s.runState = .operating)
    (hload : r.NeedsLoading → s.runState = .loading) : Ungated s (s.answer r) := by
  cases r with
  | go => exact absurd rfl hgo
  | restartRadio => exact ungated_reqRestartRadio (hop trivial)
  | setServiceLevel l => exact ungated_reqSetServiceLevel l
  | queryPart => exact ungated_reqQueryPart
  | queryLink => exact ungated_reqQueryLink
  | setRateTable rates => exact ungated_reqSetRateTable (hload trivial) rates
  | setSyncWords a b => exact ungated_reqSetSyncWords (hload trivial) a b
  | setChannelTiming v => exact ungated_reqSetChannelTiming v
  | setClassIntervals v => exact ungated_reqSetClassIntervals v
  | setStatusKeys ks => exact ungated_reqSetStatusKeys ks
  | setEventLevels ps => exact ungated_reqSetEventLevels ps
  | defineUnit v => exact ungated_reqDefineUnit v
  | removeUnit a => exact ungated_reqRemoveUnit a
  | signOn a => exact ungated_reqSignOn a
  | signOff a => exact ungated_reqSignOff a
  | defineWorker w a => exact ungated_reqDefineWorker w a
  | moveWorker w a => exact ungated_reqMoveWorker w a
  | removeWorker w => exact ungated_reqRemoveWorker w
  | queryUnit a => exact ungated_reqQueryUnit a
  | queryWorker x => exact ungated_reqQueryWorker x
  | postOrder v => exact ungated_reqPostOrder hload
  | recallOrder n => exact ungated_reqRecallOrder n
  | relinkOrder n p => exact ungated_reqRelinkOrder n p
  | queryOrder x => exact ungated_reqQueryOrder x
  | ackAlarm a c => exact ungated_reqAckAlarm (hop trivial) a c
  | resolveAlarm a => exact ungated_reqResolveAlarm (hop trivial) a
  | queryAlarms a => exact ungated_reqQueryAlarms a
  | defineDevice n k m p => exact ungated_reqDefineDevice n k m p
  | setPosition d p => exact ungated_reqSetPosition d p
  | queueStep d o u => exact ungated_reqQueueStep (hop trivial) d o u
  | confirmStep x => exact ungated_reqConfirmStep (hop trivial) x
  | abortStep x => exact ungated_reqAbortStep x
  | queryDevice d => exact ungated_reqQueryDevice d
  | querySteps a => exact ungated_reqQuerySteps a
  | definePermit v => exact ungated_reqDefinePermit v
  | issuePermit p => exact ungated_reqIssuePermit p
  | withdrawPermit p => exact ungated_reqWithdrawPermit p
  | suspendPermit p => exact ungated_reqSuspendPermit p
  | resumePermit p => exact ungated_reqResumePermit p
  | confirmSurrender p => exact ungated_reqConfirmSurrender p
  | forceCancel p => exact ungated_reqForceCancel p
  | restorePermit v x => exact ungated_reqRestorePermit (hload trivial) v x
  | queryPermit p => exact ungated_reqQueryPermit p
  | collectEvents => exact ungated_reqCollectEvents
  | unknownKind => exact .refuse
  | badLength => exact .refuse

/-- What a request can come to in the run state it meets (R173, R175). -/
inductive GateCases (s : State) : Request → Answer → Prop
  /-- It passes the gate, or fails a check before it, and leaves the run state alone. -/
  | passed {r : Request} {x : Answer} (h : Ungated s x) : GateCases s r x
  | notOperating {r : Request} {x : Answer} (hs : s.runState = .loading) (hr : r.NeedsOperating)
      (hx : x = s.refuse .notOperating []) : GateCases s r x
  | notLoading {r : Request} {x : Answer} (hs : s.runState = .operating) (hr : r.NeedsLoading)
      (hx : x = s.refuse .notLoading []) : GateCases s r x
  /-- An accepted GO. -/
  | opened {x : Answer} (hs : s.runState = .loading) (ht : x.1.runState = .operating) (ho : x.2.1 = .ok) :
      GateCases s .go x

/-- A run state's refusal comes of the request and the run state of its table alone. -/
theorem GateCases.of_gates {x : Answer} (h : GateCases s r x) (hg : x.2.1.gates = true) :
    (x.2.1 = .notOperating ∧ s.runState = .loading ∧ r.NeedsOperating)
      ∨ (x.2.1 = .notLoading ∧ s.runState = .operating ∧ r.NeedsLoading) := by
  cases h with
  | passed h => exact absurd (hg.symm.trans h.2) (by decide)
  | notOperating hs hr hx => exact .inl ⟨hx ▸ rfl, hs, hr⟩
  | notLoading hs hr hx => exact .inr ⟨hx ▸ rfl, hs, hr⟩
  | opened _ _ ho =>
    rw [ho] at hg
    cases hg

/-- GO in LOADING is refused for want of a rate table or a sync word, or it is accepted and the part operates (R175). -/
theorem reqGo_of_loading (h : s.runState = .loading) :
    (∃ body, s.reqGo = s.refuse .wrongState body)
      ∨ ∃ (t : State) (body : List Byte), t.runState = .operating ∧ s.reqGo = t.accept body := by
  unfold State.reqGo
  rw [if_neg (by simp [h])]
  split
  · exact .inl ⟨_, rfl⟩
  · split
    · exact .inl ⟨_, rfl⟩
    · refine .inr ⟨_, _, ?_, rfl⟩
      have hpermits : s.openChannel.goPermits.runState = s.openChannel.runState := (touches_goPermits _).keeps rfl
      exact (touches_beginCycle _).keeps ((Touches.foldl (fun s i => touches_enterOk s i _) _ _).keeps hpermits)

theorem gateCases_reqGo (h : s.runState = .loading) : GateCases s .go s.reqGo := by
  rcases reqGo_of_loading h with ⟨body, hrefused⟩ | ⟨t, body, ht, haccepted⟩
  · rw [hrefused]
    exact .passed .refuse
  · rw [haccepted]
    exact .opened h ht rfl

theorem gateCases_postOrder (h : s.runState = .operating) (v : OrderArg) :
    GateCases s (.postOrder v) (s.reqPostOrder v) := by
  by_cases hstart : within 2 5 v.start
  · cases hv : orderBadField v with
    | none => exact .notLoading h hstart (reqPostOrder_of_operating h hv hstart.1)
    | some n =>
      refine .passed ?_
      unfold State.reqPostOrder
      rw [hv]
      exact .outOfRange
  · exact .passed (ungated_reqPostOrder (absurd · hstart))

/-- What an owner's answer can be, in either run state. -/
theorem gateCases_answer (r : Request) (s : State) : GateCases s r (s.answer r) := by
  cases hs : s.runState with
  | loading =>
    by_cases hop : r.NeedsOperating
    · exact .notOperating hs hop (answer_of_loading hs hop)
    · by_cases hgo : r = .go
      · subst hgo
        exact gateCases_reqGo hs
      · exact .passed (ungated_answer hgo (absurd · hop) (fun _ => hs))
  | operating =>
    by_cases hload : r.NeedsLoading
    · by_cases hv : ∃ v, r = .postOrder v
      · obtain ⟨v, rfl⟩ := hv
        exact gateCases_postOrder hs v
      · exact .notLoading hs hload (answer_of_operating hs hload (fun v h => absurd ⟨v, h⟩ hv))
    · exact .passed (ungated_answer (fun hgo => hload (hgo ▸ trivial)) (fun _ => hs) (absurd · hload))

end

/-! ## The taking of a request (R163) -/

/-- The outcome of the reply on the line. -/
def State.outcome? (s : State) : Option ReplyOutcome := s.clp.sending.map Reply.outcome

/-- From s to t an accepted GO has been taken (R175). -/
def State.Opens (s t : State) : Prop := s.runState = .loading ∧ t.runState = .operating ∧ t.outcome? = some .ok

section

variable {s : State}

theorem takeRequest_outcome (kind tag : Byte) (r : Request) :
    (s.takeRequest kind tag r).outcome? = some (s.answer r).2.1 := rfl

theorem takeRequest_runState (kind tag : Byte) (r : Request) :
    (s.takeRequest kind tag r).runState = (s.answer r).1.runState := (touches_settle _).keeps rfl

/-- A request that is taken keeps the run state, or it is an accepted GO. -/
theorem takeRequest_keeps_or_opens (kind tag : Byte) (r : Request) :
    (s.takeRequest kind tag r).runState = s.runState ∨ r = .go ∧ s.Opens (s.takeRequest kind tag r) := by
  rw [State.Opens, takeRequest_runState, takeRequest_outcome]
  cases gateCases_answer r s with
  | passed h => exact .inl h.1
  | notOperating _ _ hx => exact .inl (hx ▸ rfl)
  | notLoading _ _ hx => exact .inl (hx ▸ rfl)
  | opened hs ht ho => exact .inr ⟨rfl, hs, ht, congrArg some ho⟩

/-- Serving the reply order keeps the run state, or the GO at its head is accepted. -/
theorem serve_keeps_or_opens (s : State) :
    s.serve.runState = s.runState
      ∨ (s.clp.sending = none ∧ ∃ k g rest, s.clp.order = .request k g .go :: rest) ∧ s.Opens s.serve := by
  unfold State.serve
  split
  · exact .inl rfl
  next hsending =>
    split
    · exact .inl rfl
    · exact .inl rfl
    next k g r rest horder =>
      rcases takeRequest_keeps_or_opens (s := s.modClp (fun c => { c with order := rest })) k g r with h | ⟨rfl, h⟩
      · exact .inl h
      · exact .inr ⟨⟨by simpa using hsending, k, g, rest, horder⟩, h⟩

/-- The end of a reply keeps the run state, or the GO that waited behind it is accepted. -/
theorem replySent_keeps_or_opens (s : State) :
    s.replySent.runState = s.runState
      ∨ (∃ k g rest, s.clp.order = .request k g .go :: rest) ∧ s.Opens s.replySent := by
  unfold State.replySent
  split
  · rcases serve_keeps_or_opens (s.modClp (fun c => { c with sending := none })) with h | ⟨⟨-, hhead⟩, h⟩
    · exact .inl h
    · exact .inr ⟨hhead, h⟩
  · exact .inl rfl

theorem placeMark_sending (kind tag : Byte) (o : ReplyOutcome) (c : Clp) :
    (c.placeMark kind tag o).sending = c.sending := by
  unfold Clp.placeMark
  split <;> rfl

theorem placeRequest_sending (kind tag : Byte) (r : Request) (c : Clp) :
    (c.placeRequest kind tag r).sending = c.sending := by
  unfold Clp.placeRequest
  split
  · rfl
  · exact placeMark_sending ..

/-- A mark placed in an empty reply order puts no request at its head. -/
theorem placeMark_order_ne_request (kind tag : Byte) (o : ReplyOutcome) {c : Clp} (h : c.order = []) (k g : Byte)
    (r : Request) (rest : List Place) : (c.placeMark kind tag o).order ≠ .request k g r :: rest := by
  unfold Clp.placeMark
  split <;> simp [h]

/-- A request's arrival keeps the run state, or a GO is accepted: the one that has arrived, where none waited behind an
idle line. -/
theorem arrive_keeps_or_opens (hreset : s.resetAsserted = false) (kind tag : Byte) (r : Request) :
    (s.arrive kind tag r).runState = s.runState ∨ (s.clp.orderOk → r = .go) ∧ s.Opens (s.arrive kind tag r) := by
  rcases serve_keeps_or_opens (s.modClp (fun c => { c with inFrame := false }.placeRequest kind tag r))
    with h | ⟨⟨hsending, -⟩, hopens⟩
  · exact .inl h
  · refine .inr ⟨fun ⟨_, _, hbehind⟩ => ?_, hopens⟩
    have hidle : s.clp.sending = none :=
      (placeRequest_sending kind tag r { s.clp with inFrame := false }).symm.trans hsending
    have htaken := arrive_of_lineIdle s ⟨hreset, hidle, hbehind hidle⟩ kind tag r
    rcases takeRequest_keeps_or_opens (s := s.heardOut) kind tag r with hkept | ⟨hgo, -⟩
    · obtain ⟨hs, ht, -⟩ : s.Opens (s.arrive kind tag r) := hopens
      rw [← htaken, ht] at hkept
      exact absurd (hkept.trans hs) (by decide)
    · exact hgo

/-- A whole frame's arrival keeps the run state, or a GO is accepted: the one the frame carries, where none waited
behind an idle line. -/
theorem frameArrived_keeps_or_opens (bytes : List Byte) (s : State) :
    (s.frameArrived bytes).runState = s.runState
      ∨ (s.clp.orderOk → ∃ b, serialParts bytes = some b ∧ decodeRequest b.kind b.body = .go)
        ∧ s.Opens (s.frameArrived bytes) := by
  unfold State.frameArrived
  split
  · exact .inl rfl
  next b hb =>
    split
    next htaking =>
      have hreset : s.resetAsserted = false := by simp_all [State.takingFrame]
      split
      · rcases arrive_keeps_or_opens hreset b.kind b.tag (decodeRequest b.kind b.body) with h | ⟨hgo, h⟩
        · exact .inl h
        · exact .inr ⟨fun hok => ⟨b, hb, hgo hok⟩, h⟩
      · rcases serve_keeps_or_opens (s.modClp (fun c => { c with inFrame := false }.placeMark b.kind b.tag .badFrame))
          with h | ⟨⟨hsending, k, g, rest, hhead⟩, hopens⟩
        · exact .inl h
        · refine .inr ⟨fun ⟨_, _, hbehind⟩ => ?_, hopens⟩
          have hidle : s.clp.sending = none :=
            (placeMark_sending b.kind b.tag .badFrame { s.clp with inFrame := false }).symm.trans hsending
          have hmarked := placeMark_order_ne_request b.kind b.tag .badFrame (c := { s.clp with inFrame := false })
            (hbehind hidle) k g .go rest
          exact absurd hhead hmarked
    · exact .inl rfl

end

/-! ## Every command (R173) -/

/-- A command that answers with a next state of the same run state. -/
def KeepsRunState (s : State) (x : Result) : Prop := ∀ t, x = .next t → t.runState = s.runState

theorem KeepsRunState.next {s u : State} (h : u.runState = s.runState) : KeepsRunState s (.next u) := by
  intro t ht
  cases ht
  exact h

theorem KeepsRunState.ite {s : State} {c : Prop} [Decidable c] {x y : Result} (hx : KeepsRunState s x)
    (hy : KeepsRunState s y) : KeepsRunState s (if c then x else y) := by
  split
  · exact hx
  · exact hy

section

variable {s : State}

theorem keepsRunState_frameSendCompletion : KeepsRunState s (execFrameSendCompletion s) := by
  unfold execFrameSendCompletion
  split
  · exact .ite (.next ((touches_frameSent _ _).keeps rfl)) (.next rfl)
  · exact .next rfl

theorem keepsRunState_pollWindowEnd : KeepsRunState s (execPollWindowEnd s) := by
  unfold execPollWindowEnd
  split
  · exact .ite (.next ((touches_settle _).keeps ((touches_windowEnd _ _).keeps rfl))) (.next rfl)
  · exact .next rfl

theorem keepsRunState_workerDeadlineReached (w : Nat) : KeepsRunState s (execWorkerDeadlineReached w s) := by
  unfold execWorkerDeadlineReached
  split
  · exact .ite (.next ((touches_settle _).keeps ((touches_fallDue _ _).keeps rfl))) (.next rfl)
  · exact .next rfl

theorem keepsRunState_promptWindowEnd (w : Nat) : KeepsRunState s (execPromptWindowEnd w s) := by
  unfold execPromptWindowEnd
  split
  · exact .ite (.next ((touches_settle _).keeps ((touches_handCause _ _ _).keeps rfl))) (.next rfl)
  · exact .next rfl

theorem keepsRunState_cancelWindowEnd (w : Nat) : KeepsRunState s (execCancelWindowEnd w s) := by
  unfold execCancelWindowEnd
  split
  · exact .ite (.next ((touches_settle _).keeps ((touches_handCause _ _ _).keeps rfl))) (.next rfl)
  · exact .next rfl

theorem keepsRunState_ackWindowEndRaised (a : Nat) : KeepsRunState s (execAckWindowEndRaised a s) := by
  unfold execAckWindowEndRaised
  split
  · exact .ite (.next ((touches_settle _).keeps ((touches_raisedWindowEnd _ _).keeps rfl))) (.next rfl)
  · exact .next rfl

theorem keepsRunState_ackWindowEndUnanswered (a : Nat) : KeepsRunState s (execAckWindowEndUnanswered a s) := by
  unfold execAckWindowEndUnanswered
  split
  · exact .ite (.next ((touches_settle _).keeps ((touches_unansweredWindowEnd _ _).keeps rfl))) (.next rfl)
  · exact .next rfl

/-- The rows that carry out no request and start nothing anew leave the run state alone. -/
theorem keepsRunState_exec {i : Instr} (hr : i.request? = none) (hc : i.carries = false) :
    KeepsRunState s (exec i s) := by
  cases i with
  | powerOn _ _ | resetAssertion | resetRelease _ _ | requestFrameArrived _ | replySent => cases hc
  | lengthDiscard n => exact .next (ite_keeps rfl rfl)
  | gapDiscard => exact .next (ite_keeps rfl rfl)
  | startByte => exact .next (ite_keeps rfl rfl)
  | siteClockTick => exact .ite (.next rfl) (.ite (.next rfl) (.next rfl))
  | keyupDelayExpiry => exact .ite (.next rfl) (.next rfl)
  | frameSendCompletion => exact keepsRunState_frameSendCompletion
  | pollWindowEnd => exact keepsRunState_pollWindowEnd
  | openWindowEnd => exact .ite (.next ((touches_openWindowEnd _).keeps rfl)) (.next rfl)
  | demandAdmission a =>
    exact .ite (.next ((touches_admitCalls _).keeps rfl)) (.next ((touches_admit _ _).keeps rfl))
  | workerDeadlineReached w => exact keepsRunState_workerDeadlineReached w
  | promptWindowEnd w => exact keepsRunState_promptWindowEnd w
  | cancelWindowEnd w => exact keepsRunState_cancelWindowEnd w
  | ackWindowEndRaised a => exact keepsRunState_ackWindowEndRaised a
  | ackWindowEndUnanswered a => exact keepsRunState_ackWindowEndUnanswered a
  | frameComplete bytes => exact .next ((touches_frameComplete _ _).keeps rfl)
  | burstStart | noiseRun _ | carrierWaitCleared | runClassified _ | beyondTable _ | syncMatched _ | noSync _
  | truncated _ | burstBadLength _ => exact .next rfl
  | _ => cases hr

/-- A request's row is the arrival of its frame (R161 to R163). -/
theorem exec_of_request {i : Instr} {tag : Byte} {r : Request} (h : i.request? = some (tag, r)) :
    exec i s = .next (s.requestArrives tag r) := by
  cases i <;> cases h <;> rfl

end

/-- The release of RESET starts the part in LOADING; without RESET asserted it does nothing (R172). -/
theorem exec_resetRelease_cases (x y : Bool) (s : State) :
    (s.resetAsserted = true ∧ ∃ u : State, u.runState = .loading ∧ exec (.resetRelease x y) s = .next u)
      ∨ (s.resetAsserted = false ∧ exec (.resetRelease x y) s = .next s) := by
  cases h : s.resetAsserted with
  | true => exact .inl ⟨rfl, _, rfl, if_pos h⟩
  | false => exact .inr ⟨rfl, if_neg (by simp [h])⟩

/-- The rows of power and RESET (R172). -/
def startsPart (i : Instr) : Prop :=
  (∃ x y, i = .powerOn x y) ∨ i = .resetAssertion ∨ ∃ x y, i = .resetRelease x y

/-- The commands by which the part takes a GO, on a reply order that meets R162 and R163: the row of GO, the end of the
reply before it, and a frame that carries it. -/
def State.takesGo (s : State) (i : Instr) : Prop :=
  (∃ tag, i = .go tag) ∨ (i = .replySent ∧ ∃ k g rest, s.clp.order = .request k g .go :: rest)
    ∨ ∃ bytes b, i = .requestFrameArrived bytes ∧ serialParts bytes = some b ∧ decodeRequest b.kind b.body = .go

/-- What one command can do to the run state (R172, R173, R175). -/
inductive RunStateCases (i : Instr) (s t : State) : Prop
  | kept (h : t.runState = s.runState)
  | opened (hgo : s.clp.orderOk → s.takesGo i) (h : s.Opens t)
  | started (hi : startsPart i) (h : t.runState = .loading)

theorem runStateCases_of_request {i : Instr} {tag : Byte} {r : Request} {s : State} (hr : i.request? = some (tag, r)) :
    RunStateCases i s (s.requestArrives tag r) := by
  unfold State.requestArrives
  split
  · exact .kept rfl
  next hreset =>
    rcases arrive_keeps_or_opens (by simpa using hreset) (BitVec.ofNat 8 r.kindCode) tag r with h | ⟨hgo, h⟩
    · exact .kept h
    · refine .opened (fun hok => ?_) h
      rw [hgo hok] at hr
      cases i <;> cases hr
      exact .inl ⟨_, rfl⟩

theorem runStateCases_exec {i : Instr} {s t : State} (h : exec i s = .next t) : RunStateCases i s t := by
  cases hr : i.request? with
  | some q =>
    rw [exec_of_request hr] at h
    cases h
    exact runStateCases_of_request hr
  | none =>
    cases hc : i.carries with
    | false => exact .kept (keepsRunState_exec hr hc t h)
    | true =>
      cases i with
      | powerOn x y =>
        cases h
        exact .started (.inl ⟨x, y, rfl⟩) rfl
      | resetAssertion =>
        cases h
        exact .started (.inr (.inl rfl)) rfl
      | resetRelease x y =>
        rcases exec_resetRelease_cases x y s with ⟨_, u, hu, hs⟩ | ⟨_, hs⟩
        · cases hs.symm.trans h
          exact .started (.inr (.inr ⟨x, y, rfl⟩)) hu
        · cases hs.symm.trans h
          exact .kept rfl
      | requestFrameArrived bytes =>
        cases h
        rcases frameArrived_keeps_or_opens bytes s with h | ⟨hgo, h⟩
        · exact .kept h
        · exact .opened (fun hok => (hgo hok).elim fun b hb => .inr (.inr ⟨bytes, b, rfl, hb⟩)) h
      | replySent =>
        cases h
        rcases replySent_keeps_or_opens s with h | ⟨hhead, h⟩
        · exact .kept h
        · exact .opened (fun _ => .inr (.inl ⟨rfl, hhead⟩)) h
      | _ => cases hc

/-! ## The requests on an idle line (R173) -/

section

variable {s : State} {i : Instr} {tag : Byte} {r : Request} {o : ReplyOutcome} {body : List Byte}

/-- A request whose owner changes nothing, as its row on an idle line. -/
theorem exec_of_answer_unchanged (hi : s.lineIdle) (hd : s.doublePollOk) (hr : i.request? = some (tag, r))
    (ha : s.heardOut.answer r = (s.heardOut, o, body)) : exec i s = .next (s.replied r.kindCode tag o body) := by
  rw [exec_of_request hr, requestArrives_of_answer_unchanged hi hd ha]

/-- A request that needs OPERATING, in LOADING. -/
theorem exec_of_loading (r : Request) (hi : s.lineIdle) (hd : s.doublePollOk) (hs : s.runState = .loading)
    (hr : i.request? = some (tag, r)) (hop : r.NeedsOperating) :
    exec i s = .next (s.replied r.kindCode tag .notOperating []) :=
  exec_of_answer_unchanged hi hd hr (answer_of_loading (s := s.heardOut) hs hop)

/-- A request that needs LOADING, in OPERATING. -/
theorem exec_of_operating (r : Request) (hi : s.lineIdle) (hd : s.doublePollOk) (hs : s.runState = .operating)
    (hr : i.request? = some (tag, r)) (hload : r.NeedsLoading)
    (hv : ∀ v, r = .postOrder v → orderBadField v = none := by rintro v ⟨⟩) :
    exec i s = .next (s.replied r.kindCode tag .notLoading []) :=
  exec_of_answer_unchanged hi hd hr (answer_of_operating (s := s.heardOut) hs hload hv)

/-- QUERY PART returns the run state first (R165, R173). -/
theorem reqQueryPart_eq (s : State) : ∃ rest, s.reqQueryPart = s.accept (u8 s.runState.code ++ rest) :=
  ⟨_, by simp only [State.reqQueryPart, List.append_assoc]; rfl⟩

theorem exec_queryPart (hi : s.lineIdle) (hd : s.doublePollOk) (tag : Byte) :
    ∃ rest, exec (.queryPart tag) s = .next (s.replied 0x04 tag .ok (u8 s.runState.code ++ rest)) :=
  let ⟨rest, hrest⟩ := reqQueryPart_eq s.heardOut
  ⟨rest, exec_of_answer_unchanged (r := .queryPart) hi hd rfl hrest⟩

/-- On an idle line the outcome of a request's reply is its owner's. -/
theorem requestArrives_outcome (hi : s.lineIdle) (tag : Byte) (r : Request) :
    (s.requestArrives tag r).outcome? = some (s.heardOut.answer r).2.1 := by
  rw [requestArrives_of_answer hi rfl]
  rfl

theorem requestArrives_runState (hi : s.lineIdle) (tag : Byte) (r : Request) :
    (s.requestArrives tag r).runState = (s.heardOut.answer r).1.runState := by
  rw [requestArrives_of_answer hi rfl]
  exact (touches_settle _).keeps rfl

/-- A GO in LOADING leaves the part OPERATING exactly when it is accepted (R175). -/
theorem operating_iff_go_accepted (hi : s.lineIdle) (hs : s.runState = .loading) (tag : Byte) :
    (s.requestArrives tag .go).runState = .operating ↔ (s.requestArrives tag .go).outcome? = some .ok := by
  rw [requestArrives_outcome hi, requestArrives_runState hi]
  rcases reqGo_of_loading (s := s.heardOut) hs with ⟨body, ha⟩ | ⟨t, body, ht, ha⟩
  · have hanswer : s.heardOut.answer .go = s.heardOut.refuse .wrongState body := ha
    rw [hanswer]
    exact iff_of_false (fun h => absurd (hs.symm.trans h) (by decide)) (by simp [State.refuse])
  · have hanswer : s.heardOut.answer .go = t.accept body := ha
    rw [hanswer]
    exact iff_of_true ht rfl

/-- NOT_OPERATING comes of a request that needs OPERATING, in LOADING, alone. -/
theorem needsOperating_of_outcome (hi : s.lineIdle)
    (ho : (s.requestArrives tag r).outcome? = some .notOperating) : s.runState = .loading ∧ r.NeedsOperating := by
  rw [requestArrives_outcome hi, Option.some_inj] at ho
  rcases (gateCases_answer r s.heardOut).of_gates (ho ▸ rfl) with ⟨_, hcase⟩ | ⟨hload, _⟩
  · exact hcase
  · cases hload.symm.trans ho

/-- NOT_LOADING comes of a request that needs LOADING, in OPERATING, alone. -/
theorem needsLoading_of_outcome (hi : s.lineIdle)
    (ho : (s.requestArrives tag r).outcome? = some .notLoading) : s.runState = .operating ∧ r.NeedsLoading := by
  rw [requestArrives_outcome hi, Option.some_inj] at ho
  rcases (gateCases_answer r s.heardOut).of_gates (ho ▸ rfl) with ⟨hop, _⟩ | ⟨_, hcase⟩
  · cases hop.symm.trans ho
  · exact hcase

end

/-! ## The statement -/

/-- Power-on and RESET leave the part LOADING (R172, R173). -/
theorem loading_of_start {x y : Bool} {s t : State}
    (h : exec (.powerOn x y) s = .next t ∨ exec .resetAssertion s = .next t
      ∨ (s.resetAsserted = true ∧ exec (.resetRelease x y) s = .next t)) : t.runState = .loading := by
  rcases h with h | h | ⟨hasserted, h⟩
  · cases h
    rfl
  · cases h
    rfl
  · rcases exec_resetRelease_cases x y s with ⟨_, u, hu, hs⟩ | ⟨hreleased, _⟩
    · cases hs.symm.trans h
      exact hu
    · exact absurd (hasserted.symm.trans hreleased) (by decide)

/-- OPERATING lasts until power-on or RESET. -/
theorem operating_or_startsPart {i : Instr} {s t : State} (h : exec i s = .next t) (hs : s.runState = .operating) :
    t.runState = .operating ∨ startsPart i := by
  cases runStateCases_exec h with
  | kept hkept => exact .inl (hkept.trans hs)
  | opened _ hopens => exact .inl hopens.2.1
  | started hi _ => exact .inr hi

/-- The part comes to OPERATING by an accepted GO alone. -/
theorem go_of_operating {i : Instr} {s t : State} (h : exec i s = .next t) (hok : s.clp.orderOk)
    (hs : s.runState = .loading) (ht : t.runState = .operating) : t.outcome? = some .ok ∧ s.takesGo i := by
  cases runStateCases_exec h with
  | kept hkept => exact absurd (ht.symm.trans (hkept.trans hs)) (by decide)
  | opened hgo hopens =>
    obtain ⟨-, -, houtcome⟩ := hopens
    exact ⟨houtcome, hgo hok⟩
  | started _ hloading => exact absurd (ht.symm.trans hloading) (by decide)

/-- Settles O15: power and RESET load the part, an accepted GO alone makes it operate, and each gate refuses the
requests of its table and no other. -/
theorem runStateGates : Obligations.RunStateGates := by
  refine ⟨⟨rfl, fun x y s t => loading_of_start⟩, fun i s t => operating_or_startsPart,
    fun i s t => go_of_operating, ?_, ?_, ?_, ?_⟩
  · intro tag s t hi hs h
    cases h
    exact operating_iff_go_accepted hi hs tag
  · intro tag s hi hd hs
    have hpart := exec_queryPart hi hd tag
    rw [hs] at hpart
    exact ⟨⟨exec_of_loading .restartRadio hi hd hs rfl trivial, hpart⟩, fun a b c =>
      ⟨exec_of_loading (.ackAlarm a b) hi hd hs rfl trivial, exec_of_loading (.resolveAlarm a) hi hd hs rfl trivial,
        exec_of_loading (.queueStep a b c) hi hd hs rfl trivial,
        exec_of_loading (.confirmStep a) hi hd hs rfl trivial⟩⟩
  · intro tag s hi hd hs
    have hpart := exec_queryPart hi hd tag
    rw [hs] at hpart
    refine ⟨⟨exec_of_operating .go hi hd hs rfl trivial, hpart,
      fun rates => exec_of_operating (.setRateTable rates) hi hd hs rfl trivial,
      fun a b => exec_of_operating (.setSyncWords a b) hi hd hs rfl trivial,
      fun v st => exec_of_operating (.restorePermit v st) hi hd hs rfl trivial⟩, ?_⟩
    intro v hunit hpriority hhazard htext hstart
    refine exec_of_operating (.postOrder v) hi hd hs rfl hstart fun w hw => ?_
    cases hw
    exact (orderBadField_eq_none_iff v).2 ⟨hunit, hpriority, hhazard, htext, hstart.2⟩
  · intro i tag r s t hr hi h
    rw [exec_of_request hr] at h
    cases h
    exact ⟨needsOperating_of_outcome hi, needsLoading_of_outcome hi⟩

end Sys2Proof.Machine
end
